-- ==== Sys2Proof/Word.lean ====
section
/-! DEFINITION. The word types of the block (00_scope.md R7, R11; 30_encoding.md R70). -/

namespace Sys2Proof

/-- A cycle input word CW: the value of every input port but `clk` in one cycle (R70). -/
abbrev Word := BitVec 32

/-- A key line number, 0 to 11 (R7, R83). -/
abbrev KeyLine := Fin 12

/-- One bit per key line, bit k for line k (R71, R57). -/
abbrev KeyVec := BitVec 12

end Sys2Proof
end

