-- ==== Sys2Proof/Syntax.lean ====
section
/-! DEFINITION. The operation set of 30_encoding.md R73: one constructor per row of spec/opcode_table.json.
The block has no instruction stream (R40); an operation is requested by the bits of the cycle input word
(external) or caused inside the step (internal). -/

namespace Sys2Proof

/-- The operations of R73, in the table's order. -/
inductive Instr where
  /-- RST: reset (R74, R210). -/
  | rst
  /-- SAMPLE: sample the twelve key lines; operand `raw` = CW[11:0] (R75). -/
  | sample (raw : KeyVec)
  /-- TICK: one unit of time has passed (R76). -/
  | tick
  /-- START: start a countdown; operands `min` = CW[28:22], `sec` = CW[21:16] (R77). -/
  | start (min : BitVec 7) (sec : BitVec 6)
  /-- ACK: external acknowledge of an expiry (R78). -/
  | ack
  /-- CLICK: request the key click (R79). -/
  | click
  /-- NOP: the name of a word with no strobe (R80). -/
  | nop
  /-- DONE (internal): the expiry burst plays its last clock cycle (R81, R127). -/
  | done
  /-- BURST (internal): start the expiry burst (R144). -/
  | burst
  /-- STOP (internal): silence the buzzer on the return to IDLE (R145). -/
  | stop
  /-- CUE (internal): start the periodic cue (R146). -/
  | cue
  /-- ADVANCE (internal): one clock of the buzzer sequencer (R148). -/
  | advance
  /-- SERVO (internal): one clock of the servo part; operands are the internal signals `start_now` and
  `expired_now` of R120 that R152 reads. -/
  | servo (startNow expiredNow : Bool)
deriving DecidableEq, Repr

/-- The operations the environment can request through CW (R73, column "kind"). -/
def Instr.external : Instr → Bool
  | .rst | .sample _ | .tick | .start _ _ | .ack | .click | .nop => true
  | .done | .burst | .stop | .cue | .advance | .servo _ _ => false

end Sys2Proof
end

