-- ==== Sys2Proof/WellFormed.lean ====
section
/-! DEFINITION. The checks on operations (operand widths are in the types) and on sets of requested
operations, the results of decoding a cycle input word (30_encoding.md R82). -/

namespace Sys2Proof

/-- `start_now` and `expired_now` are never both 1 (42_pwm_mapper.md R152); every other operand value the
types admit is legal (R86, R90). -/
def Instr.wellFormed : Instr → Bool
  | .servo startNow expiredNow => !(startNow && expiredNow)
  | .rst => true
  | .sample _ => true
  | .tick => true
  | .start _ _ => true
  | .ack => true
  | .click => true
  | .nop => true
  | .done => true
  | .burst => true
  | .stop => true
  | .cue => true
  | .advance => true

/-- Place of a strobe in the table of R73; none for an operation that is no strobe. -/
def Instr.strobeRank : Instr → Option Nat
  | .tick => some 0
  | .start _ _ => some 1
  | .ack => some 2
  | .click => some 3
  | .rst => none
  | .sample _ => none
  | .nop => none
  | .done => none
  | .burst => none
  | .stop => none
  | .cue => none
  | .advance => none
  | .servo _ _ => none

/-- The strobes of one word, each at most once and in the table's order, all ranks at least `from`. -/
def Instr.strobesFrom (low : Nat) : List Instr → Bool
  | [] => true
  | i :: rest =>
    match i.strobeRank with
    | some r => decide (low ≤ r) && Instr.strobesFrom (r + 1) rest
    | none => false

/-- The sets of operations one word can request (R82): RST alone; otherwise SAMPLE with any of the four
strobes, and with NOP when there is none (R80). A set is written in the table's order. -/
def Instr.requestSet : List Instr → Bool
  | [.rst] => true
  | [.sample _, .nop] => true
  | .sample _ :: i :: rest => Instr.strobesFrom 0 (i :: rest)
  | _ => false

end Sys2Proof
end

