-- ==== Sys2Proof/Decode.lean ====
section
/-! DEFINITION. Decoding a cycle input word into the set of operations it requests (30_encoding.md R71 to
R82), total on every 32-bit value, and the encoder written from the same table. -/

namespace Sys2Proof

/-- Operand `raw` of SAMPLE, CW[11:0] (R71). -/
def rawField (w : Word) : KeyVec := w.extractLsb' 0 12

/-- START operand `sec`, CW[21:16] (R71, R77). -/
def secField (w : Word) : BitVec 6 := w.extractLsb' 16 6

/-- START operand `min`, CW[28:22] (R71, R77). -/
def minField (w : Word) : BitVec 7 := w.extractLsb' 22 7

/-- An operation is requested exactly when `CW and mask == match` (R73). -/
def requested (mask pattern w : Word) : Bool := w &&& mask == pattern

/-- The operation if the word matches the row, nothing otherwise (R73). -/
def rowOf (mask pattern w : Word) (i : Instr) : List Instr :=
  if requested mask pattern w then [i] else []

/-- The decoder: the operations whose row of R73 matches the word, in the table's order (R82). The six
internal rows have no pattern and are skipped (R81). Total: no word is illegal (R90). -/
def decodeWord (w : Word) : List Instr :=
  rowOf 0x80000000 0x80000000 w .rst ++
  rowOf 0x80000000 0x00000000 w (.sample (rawField w)) ++
  rowOf 0x80001000 0x00001000 w .tick ++
  rowOf 0x80002000 0x00002000 w (.start (minField w) (secField w)) ++
  rowOf 0x80004000 0x00004000 w .ack ++
  rowOf 0x80008000 0x00008000 w .click ++
  rowOf 0x8000F000 0x00000000 w .nop

/-- The one operation that names a word: the last one of its set in the table's order, so that a strobe or
NOP is named before SAMPLE, which every word without RST requests. Log entry 5. DESIGN CHOICE, safe: the
step runs the whole set. -/
def primaryOp (w : Word) : Option Instr := (decodeWord w).getLast?

/-- The decoder's reading of a row of spec/opcode_table.json: the word of `nbits` bits `w`, every bit above
`nbits` zero; none for a length the block has no word of (R70: all words have 32 bits). -/
def decodeTableWord (nbits w : Nat) : Option Instr :=
  if nbits ≤ 32 then primaryOp (BitVec.ofNat 32 (w % 2 ^ nbits)) else none

/-- The bits an operation sets in the cycle input word (R71, R73); none for an internal operation, which
has no encoding (R81). -/
def encode : Instr → Option Word
  | .rst => some 0x80000000
  | .sample raw => some (raw.setWidth 32)
  | .tick => some 0x00001000
  | .start min sec => some (0x00002000 ||| (min.setWidth 32 <<< 22) ||| (sec.setWidth 32 <<< 16))
  | .ack => some 0x00004000
  | .click => some 0x00008000
  | .nop => some 0x00000000
  | .done => none
  | .burst => none
  | .stop => none
  | .cue => none
  | .advance => none
  | .servo _ _ => none

/-- The word that requests a set of operations: the OR of their fields (R91). -/
def encodeSet : List Instr → Word
  | [] => 0
  | i :: rest => (encode i).getD 0 ||| encodeSet rest

/-- The word with every ignored bit cleared: all but bit 31 under RST (R74), CW[30:29] (R72), and CW[28:16]
when START is not requested (R77). -/
def canonicalWord (w : Word) : Word :=
  if w[31] then 0x80000000
  else if w[13] then w &&& 0x1FFFFFFF
  else w &&& 0x0000FFFF

/-- The values of all input ports in one cycle (20_memory.md R57), which CW packs (R70). -/
structure CycleInput where
  rst : Bool
  min : BitVec 7
  sec : BitVec 6
  click : Bool
  ack : Bool
  start : Bool
  tick : Bool
  raw : KeyVec
deriving DecidableEq, Repr

/-- The packing of format CYC, the reserved bits CW[30:29] written 0 (R71, R72). -/
def CycleInput.toWord (c : CycleInput) : Word :=
  (BitVec.ofBool c.rst ++ 0#2 ++ c.min ++ c.sec ++ BitVec.ofBool c.click ++ BitVec.ofBool c.ack ++
    BitVec.ofBool c.start ++ BitVec.ofBool c.tick ++ c.raw : BitVec 32)

/-- The ports' values that a word packs (R71). -/
def CycleInput.ofWord (w : Word) : CycleInput where
  rst := w[31]
  min := minField w
  sec := secField w
  click := w[15]
  ack := w[14]
  start := w[13]
  tick := w[12]
  raw := rawField w

end Sys2Proof
end

