-- ==== Sys2Proof/Config.lean ====
section
/-! DEFINITION. The implementation parameters of 00_scope.md R8, their constraints, the two named value
sets, and the one free value of the model (the input of a cycle for which no script is given). -/

namespace Sys2Proof

/-- The fourteen parameters the source leaves to the implementation (R8). They are constants of an
instance (R41): no operation writes them. Widths are those of the fields they are loaded into or
compared with (R20), which give R8's upper bounds 65535, 8191 and 255. -/
structure Config where
  /-- T_SETTLE: settle interval in clock cycles. -/
  tSettle : BitVec 16
  /-- CADENCE: ticks between two cues. -/
  cadence : BitVec 13
  /-- BUZ_PERIOD: buzzer PWM period in clock cycles. -/
  buzPeriod : BitVec 16
  /-- CLICK_DUTY: compare value of the key click. -/
  clickDuty : BitVec 16
  /-- CLICK_LEN: key-click length in buzzer periods. -/
  clickLen : BitVec 16
  /-- CUE_DUTY: compare value of the cue. -/
  cueDuty : BitVec 16
  /-- CUE_LEN: cue length in buzzer periods. -/
  cueLen : BitVec 16
  /-- BURST_DUTY: compare value of each expiry pulse. -/
  burstDuty : BitVec 16
  /-- BURST_LEN: length of an expiry pulse in buzzer periods. -/
  burstLen : BitVec 16
  /-- BURST_GAP: silence between expiry pulses in buzzer periods. -/
  burstGap : BitVec 16
  /-- BURST_COUNT: number of expiry pulses. -/
  burstCount : BitVec 8
  /-- SERVO_PERIOD: servo PWM period in clock cycles. -/
  servoPeriod : BitVec 16
  /-- SERVO_RUN_PW: servo compare value while a countdown runs. -/
  servoRunPw : BitVec 16
  /-- SERVO_IDLE_PW: servo compare value when idle or expired. -/
  servoIdlePw : BitVec 16
deriving DecidableEq, Repr

/-- The column "constraint" of R8. The upper bounds that are the width's own are not repeated. -/
abbrev Config.Valid (c : Config) : Prop :=
  1#16 ≤ c.tSettle ∧ 1#13 ≤ c.cadence ∧ 2#16 ≤ c.buzPeriod ∧
  c.clickDuty ≤ c.buzPeriod ∧ 1#16 ≤ c.clickLen ∧
  c.cueDuty ≤ c.buzPeriod ∧ 1#16 ≤ c.cueLen ∧
  c.burstDuty ≤ c.buzPeriod ∧ 1#16 ≤ c.burstLen ∧ 1#16 ≤ c.burstGap ∧ 1#8 ≤ c.burstCount ∧
  2#16 ≤ c.servoPeriod ∧ c.servoRunPw ≤ c.servoPeriod ∧ c.servoIdlePw ≤ c.servoPeriod

/-- REFCFG, the reference configuration for a 1 MHz clock (R8). -/
def Config.refcfg : Config where
  tSettle := 5000
  cadence := 10
  buzPeriod := 1000
  clickDuty := 500
  clickLen := 20
  cueDuty := 500
  cueLen := 100
  burstDuty := 900
  burstLen := 200
  burstGap := 200
  burstCount := 3
  servoPeriod := 20000
  servoRunPw := 1800
  servoIdlePw := 1200

/-- TESTCFG, the small configuration of the vectors of 95_test_vectors.md (R8). -/
def Config.testcfg : Config where
  tSettle := 4
  cadence := 3
  buzPeriod := 4
  clickDuty := 2
  clickLen := 1
  cueDuty := 2
  cueLen := 2
  burstDuty := 3
  burstLen := 2
  burstGap := 1
  burstCount := 2
  servoPeriod := 10
  servoRunPw := 4
  servoIdlePw := 2

/-- The n-th cycle input word the environment presents in a cycle for which the script holds no word.
A FREE VALUE: the block takes its input under no law (R100, R12). Log entry 2. DESIGN CHOICE, safe. -/
opaque Config.freeWord : Nat → Word

end Sys2Proof
end

