-- ==== Sys2Proof/Machine/State.lean ====
section
/-! DEFINITION. The state of the block (10_state.md R20, 364 bits), the reasons a step can stop, and the
reset state (70_reset_and_hazards.md R211, R212). -/

namespace Sys2Proof.Machine

/-- The mode of the CountdownState (R26); `unused` is the code 0b11, which R128 recovers from
(log entry 6). -/
inductive Mode where
  | idle | running | expired | unused
deriving DecidableEq, Repr

/-- The phase of a line's DebounceWindow (R23); `unused` is the code 0b11 (R109). -/
inductive LinePhase where
  | idle | settle | held | unused
deriving DecidableEq, Repr

/-- The phase of the buzzer sequencer (R34); `unused` is the code 0b11 (R149). -/
inductive SeqPhase where
  | off | on | gap | unused
deriving DecidableEq, Repr

/-- Which BuzzerTone the sequencer plays (R35). -/
inductive ToneKind where
  | none | click | cue | burst
deriving DecidableEq, Repr

/-- The state of one key line: synchroniser and DebounceWindow (R21 to R25). -/
structure DebounceLine where
  /-- first synchroniser flop (R21) -/
  sy1 : Bool
  /-- second synchroniser flop, the sample (R22) -/
  sy2 : Bool
  /-- phase (R23) -/
  dph : LinePhase
  /-- settle down-counter (R24) -/
  dcnt : BitVec 16
  /-- confirmed-key event strobe (R25) -/
  kev : Bool
deriving DecidableEq, Repr

/-- The state of unit CD (R26 to R32). -/
structure Countdown where
  mode : Mode
  /-- remaining ticks (R27) -/
  rem : BitVec 13
  evStart : Bool
  evUpdate : Bool
  evCue : Bool
  evExpired : Bool
  evRearm : Bool
deriving DecidableEq, Repr

/-- The state of the buzzer sequencer (R34 to R38). -/
structure Sequencer where
  ph : SeqPhase
  kind : ToneKind
  /-- buzzer periods still to play in the phase (R36) -/
  left : BitVec 16
  /-- pulses still to play in the tone (R37) -/
  rep : BitVec 8
  /-- buzzer PWM period counter (R38) -/
  bcnt : BitVec 16
deriving DecidableEq, Repr

/-- The state of the servo part (R39, R43, R44). -/
structure Servo where
  /-- commanded compare value (R39) -/
  cmd : BitVec 16
  /-- active compare value, the shadow (R43) -/
  act : BitVec 16
  /-- servo PWM period counter (R44) -/
  scnt : BitVec 16
deriving DecidableEq, Repr

/-- The whole state: the spec's fields by unit (R20), and three fields of the model: the instance's
parameters, which no operation writes (R41, log entry 1), and what the environment will present (R70,
log entry 2). -/
structure State where
  lines : Vector DebounceLine 12
  cd : Countdown
  seq : Sequencer
  servo : Servo
  /-- MODEL: the parameters of R8 -/
  cfg : Config
  /-- MODEL: the cycle input words still to be presented, the next one first -/
  script : List Word
  /-- MODEL: how many free words have been drawn -/
  drawn : Nat
deriving DecidableEq, Repr

/-- The block raises no exception and has no error state (60_exceptions.md R190): there is no fault, and no
meaning can answer with one. -/
inductive Fault where
deriving DecidableEq, Repr

/-- Why the model does not answer. -/
inductive Refusal where
  /-- Raised by an arm of exec for an instruction without a meaning yet; no arm does. Safe. -/
  | notModelled (mnemonic : String)
  /-- Raised by the step when a parameter is outside the constraints of R8: outside the spec
  (R228), and 93_implementation_defined.md V7 says refuse. Safe. -/
  | configOutOfRange
deriving DecidableEq, Repr

/-- A key line after reset (R211). -/
def DebounceLine.reset : DebounceLine where
  sy1 := false
  sy2 := false
  dph := .idle
  dcnt := 0#16
  kev := false

/-- Unit CD after reset (R212). -/
def Countdown.reset : Countdown where
  mode := .idle
  rem := 0#13
  evStart := false
  evUpdate := false
  evCue := false
  evExpired := false
  evRearm := false

/-- The sequencer after reset (R212). -/
def Sequencer.reset : Sequencer where
  ph := .off
  kind := .none
  left := 0#16
  rep := 0#8
  bcnt := 0#16

/-- The servo part after reset, at the instance's idle width (R212). -/
def Servo.reset (c : Config) : Servo where
  cmd := c.servoIdlePw
  act := c.servoIdlePw
  scnt := 0#16

/-- The reset state of an instance with parameters `c` and the given environment (R211, R212). -/
def State.resetOf (c : Config) (script : List Word) (drawn : Nat) : State where
  lines := Vector.replicate 12 DebounceLine.reset
  cd := Countdown.reset
  seq := Sequencer.reset
  servo := Servo.reset c
  cfg := c
  script := script
  drawn := drawn

/-- The block right after reset (R211, R212): the reference instance, with nothing scripted. The
parameters are a DESIGN CHOICE (REFCFG, log entry 1), the environment's fields another (log entry 2). -/
def State.reset : State := State.resetOf Config.refcfg [] 0

end Sys2Proof.Machine
end

