-- ==== Sys2Proof/Machine/Operands.lean ====
section
/-! DEFINITION. Operand assembly, value encodings and selections (30_encoding.md R83 to R89). -/

namespace Sys2Proof.Machine

/-- N = zext_13(min) · 60 + zext_13(sec), 13-bit unsigned (R85). Every operand value is used as it stands
(R86). -/
def startTicks (min : BitVec 7) (sec : BitVec 6) : BitVec 13 :=
  min.setWidth 13 * 60#13 + sec.setWidth 13

/-- The code of a mode (R84). -/
def modeCode : Mode → BitVec 2
  | .idle => 0
  | .running => 1
  | .expired => 2
  | .unused => 3

/-- The code of a line phase (R84). -/
def linePhaseCode : LinePhase → BitVec 2
  | .idle => 0
  | .settle => 1
  | .held => 2
  | .unused => 3

/-- The code of a sequencer phase (R84). -/
def seqPhaseCode : SeqPhase → BitVec 2
  | .off => 0
  | .on => 1
  | .gap => 2
  | .unused => 3

/-- The code of a tone kind (R84). -/
def toneKindCode : ToneKind → BitVec 2
  | .none => 0#2
  | .click => 1
  | .cue => 2
  | .burst => 3

/-- DUTY(kind), the buzzer compare value of a tone (R150). -/
def toneDuty (c : Config) : ToneKind → BitVec 16
  | .none => 0#16
  | .click => c.clickDuty
  | .cue => c.cueDuty
  | .burst => c.burstDuty

/-- The least k with v[k] = 1, none for 0 (R110). -/
def lowestSet (v : KeyVec) : Option KeyLine :=
  (List.finRange 12).find? fun k => v.getLsbD k

/-- Row of a key line (R83). -/
def keyRow (k : KeyLine) : Nat := k.val / 3

/-- Column of a key line (R83). -/
def keyColumn (k : KeyLine) : Nat := k.val % 3

/-- The key character of a line in the fixed layout (R83). -/
def keyChar (k : KeyLine) : Char :=
  ['1', '2', '3', '4', '5', '6', '7', '8', '9', '*', '0', '#'].getD k.val '?'

/-- The digit value dv(k) of a key line, none for the controls '*' and '#' (R83). -/
def digitValue (k : KeyLine) : Option (Fin 10) :=
  if h : k.val < 9 then some ⟨k.val + 1, by omega⟩ else if k.val = 10 then some 0 else none

end Sys2Proof.Machine
end

