-- ==== Sys2Proof/Machine/Flags.lean ====
section
/-! DEFINITION. The flag-like state of the block: the five event strobes and the confirmed-key strobes
(10_state.md R33). -/

namespace Sys2Proof.Machine

/-- Unit CD with a mode, a count and its five strobes written: each strobe is 1 for its cause and 0
otherwise (R33, R129). -/
def strobed (mode : Mode) (rem : BitVec 13) (start update cue expired rearm : Bool) : Countdown where
  mode := mode
  rem := rem
  evStart := start
  evUpdate := update
  evCue := cue
  evExpired := expired
  evRearm := rearm

/-- `cue_now` of an effective TICK that leaves `rem`: a multiple of CADENCE (R125; the new value is tested). -/
def cueNow (c : Config) (rem : BitVec 13) : Bool := rem % c.cadence == 0#13

/-- The twelve confirmed-key strobes as one vector (R108). -/
def kevVector (lines : Vector DebounceLine 12) : KeyVec :=
  BitVec.ofFnLE fun k : Fin 12 => lines[k].kev

end Sys2Proof.Machine
end

