-- ==== Sys2Proof/Machine/Ops.lean ====
section
/-! DEFINITION. The named operations the meanings share: updates of one unit of the state, the transitions
of unit CD, the primitive writes of the sequencer, and the sequencing of meanings. The block has no memory
and raises no exception (R50, R190); what stands in their place are the transition to EXPIRED (R201,
`Countdown.expire`) and the return from it (R202, `Countdown.rearm`). -/

namespace Sys2Proof.Machine

/-- The outcome type of this machine. -/
abbrev Result := Host.Outcome State Fault Refusal

/-- The state with unit DB replaced. -/
def State.withLines (s : State) (ls : Vector DebounceLine 12) : State := { s with lines := ls }

/-- The state with unit CD replaced. -/
def State.withCd (s : State) (c : Countdown) : State := { s with cd := c }

/-- The state with the buzzer sequencer replaced. -/
def State.withSeq (s : State) (q : Sequencer) : State := { s with seq := q }

/-- The state with the servo part replaced. -/
def State.withServo (s : State) (v : Servo) : State := { s with servo := v }

/-- The reset state of the same instance, in the same environment (R210, R213). -/
def State.toReset (s : State) : State := State.resetOf s.cfg s.script s.drawn

/-- The state in which the environment presents `w` in the coming cycle. -/
def State.present (s : State) (w : Word) : State := { s with script := w :: s.script }

/-- The continuation of a meaning's next state; a fault or a refusal stays. -/
def andThen (r : Result) (f : State → Result) : Result :=
  match r with
  | .next s => f s
  | .fault e => .fault e
  | .refused e => .refused e

/-- The transition into RUNNING with n ticks (R123): `start_now`. -/
def Countdown.begin (n : BitVec 13) : Countdown := strobed .running n true false false false false

/-- A decrement that leaves more than nothing (R125): `update_now`, and `cue_now` on a multiple of CADENCE. -/
def Countdown.decrement (cfg : Config) (c : Countdown) : Countdown :=
  strobed .running (c.rem - 1#13) false true (cueNow cfg (c.rem - 1#13)) false false

/-- TAKING THE EXPIRY, the block's nearest thing to a trap entry (R201): `mode'` = EXPIRED, `rem'` = 0,
`expired_now`; nothing is saved. Shared by TICK (R126) and START with a zero duration (R124). -/
def Countdown.expire : Countdown := strobed .expired 0#13 false false false true false

/-- THE RETURN from it (R202): `mode'` = IDLE, `rem'` = 0, `rearm_now`; nothing is restored. Shared by DONE
and ACK (R127). -/
def Countdown.rearm : Countdown := strobed .idle 0#13 false false false false true

/-- A cycle in which no row of R121 with an operation applies: mode and rem stay, the strobes fall (R129);
the unused mode code goes to IDLE with `rem'` = 0 (R128). -/
def Countdown.rest (c : Countdown) : Countdown :=
  match c.mode with
  | .unused => strobed .idle 0#13 false false false false false
  | .idle => strobed .idle c.rem false false false false false
  | .running => strobed .running c.rem false false false false false
  | .expired => strobed .expired c.rem false false false false false

/-- `load(kind, len, rep)` (R142). -/
def Sequencer.load (kind : ToneKind) (len : BitVec 16) (rep : BitVec 8) : Sequencer where
  ph := .on
  kind := kind
  left := len
  rep := rep
  bcnt := 0#16

/-- `off()` (R142). -/
def Sequencer.silence : Sequencer where
  ph := .off
  kind := .none
  left := 0#16
  rep := 0#8
  bcnt := 0#16

/-- `wrap`: the cycle is the last of a buzzer period (R141). -/
def Sequencer.wrap (cfg : Config) (q : Sequencer) : Bool :=
  q.ph != .off && q.bcnt == cfg.buzPeriod - 1#16

/-- `seq_done`: the cycle is the last of an expiry burst (R141); 0 in the unused phase (R149). -/
def Sequencer.finishing (cfg : Config) (q : Sequencer) : Bool :=
  q.wrap cfg && q.kind == .burst && q.ph == .on && decide (q.left ≤ 1#16) && decide (q.rep ≤ 1#8)

/-- The end of a buzzer period in phase SQ_ON with no period left (listing of R148). -/
def Sequencer.endPulse (cfg : Config) (q : Sequencer) : Sequencer :=
  if q.kind = .burst ∧ 1#8 < q.rep then { q with ph := .gap, left := cfg.burstGap, rep := q.rep - 1#8, bcnt := 0#16 }
  else .silence

/-- The last cycle of a buzzer period (listing of R148). -/
def Sequencer.endPeriod (cfg : Config) (q : Sequencer) : Sequencer :=
  if 1#16 < q.left then { q with left := q.left - 1#16, bcnt := 0#16 }
  else if q.ph = .on then q.endPulse cfg
  else { q with ph := .on, left := cfg.burstLen, bcnt := 0#16 }

/-- One clock of the sequencer (listing of R148); the unused phase is handled as SQ_OFF (R149). -/
def Sequencer.clock (cfg : Config) (q : Sequencer) : Sequencer :=
  match q.ph with
  | .off => .silence
  | .unused => .silence
  | .on => if q.wrap cfg then q.endPeriod cfg else { q with bcnt := q.bcnt + 1#16 }
  | .gap => if q.wrap cfg then q.endPeriod cfg else { q with bcnt := q.bcnt + 1#16 }

/-- `swrap`: the cycle is the last of a servo period (R153). -/
def Servo.wrap (cfg : Config) (v : Servo) : Bool := v.scnt == cfg.servoPeriod - 1#16

/-- The commanded width after a cycle (R152). -/
def Servo.command (cfg : Config) (startNow expiredNow : Bool) (v : Servo) : BitVec 16 :=
  if startNow then cfg.servoRunPw else if expiredNow then cfg.servoIdlePw else v.cmd

/-- One clock of the servo part (R152 to R154); the latch reads the registered `servo_cmd`. -/
def Servo.clock (cfg : Config) (startNow expiredNow : Bool) (v : Servo) : Servo where
  cmd := v.command cfg startNow expiredNow
  act := if v.wrap cfg then v.cmd else v.act
  scnt := if v.wrap cfg then 0#16 else v.scnt + 1#16

end Sys2Proof.Machine
end

