-- ==== Sys2Proof/Machine/Control.lean ====
section
/-! DEFINITION. The operations RST (70_reset_and_hazards.md) and NOP (30_encoding.md R80). -/

namespace Sys2Proof.Machine

/-- RST (R210 to R213): every field of the spec takes its reset value; the parameters and the environment
are not state of the block and stay (DEDUCED, log entry 12). -/
def execRst (s : State) : Result := .next s.toReset

/-- NOP (R80): "not an operation of its own": it has no effect. SAMPLE, ADVANCE and SERVO run in its cycle
as in every cycle without RST; the cycle runs them (Machine/Cycle.lean). -/
def execNop (s : State) : Result := .next s

end Sys2Proof.Machine
end

