-- ==== Sys2Proof/Machine/CountdownUnit.lean ====
section
/-! DEFINITION. Unit CD: the operations START, TICK, ACK and DONE (41_countdown.md). An operation whose guard
fails is absorbed: it changes nothing (60_exceptions.md R190). -/

namespace Sys2Proof.Machine

/-- START (R122 to R124): effective only in IDLE; a zero duration expires on the call. -/
def execStart (min : BitVec 7) (sec : BitVec 6) (s : State) : Result :=
  if s.cd.mode = .idle then
    if startTicks min sec = 0#13 then .next (s.withCd .expire) else .next (s.withCd (.begin (startTicks min sec)))
  else .next s

/-- TICK (R125, R126): effective only in RUNNING. -/
def execTick (s : State) : Result :=
  if s.cd.mode = .running then
    if 1#13 < s.cd.rem then .next (s.withCd (s.cd.decrement s.cfg)) else .next (s.withCd .expire)
  else .next s

/-- ACK (R127): effective only in EXPIRED. -/
def execAck (s : State) : Result :=
  if s.cd.mode = .expired then .next (s.withCd .rearm) else .next s

/-- DONE (R127): caused by `seq_done` in EXPIRED (R81, R120, R141). -/
def execDone (s : State) : Result :=
  if s.cd.mode = .expired ∧ s.seq.finishing s.cfg = true then .next (s.withCd .rearm) else .next s

end Sys2Proof.Machine
end

