-- ==== Sys2Proof/Machine/Debounce.lean ====
section
/-! DEFINITION. Unit DB: the operation SAMPLE (40_debounce.md). -/

namespace Sys2Proof.Machine

/-- The debounce machine of one line, its sample being `sy2` (R102 to R107, R109). A field that the row's
pseudocode does not write keeps its value (R12); log entry 9. -/
def DebounceLine.debounce (cfg : Config) (l : DebounceLine) : DebounceLine :=
  match l.dph with
  | .idle =>
    if l.sy2 then { l with dph := .settle, dcnt := cfg.tSettle, kev := false }
    else { l with kev := false }
  | .settle =>
    if 1#16 < l.dcnt then { l with dcnt := l.dcnt - 1#16, kev := false }
    else if l.sy2 then { l with dph := .held, dcnt := 0#16, kev := true }
    else { l with dph := .idle, dcnt := 0#16, kev := false }
  | .held =>
    if l.sy2 then { l with kev := false }
    else { l with dph := .idle, kev := false }
  | .unused => { l with dph := .idle, dcnt := 0#16, kev := false }

/-- One cycle of one line: both synchroniser stages (R100, R101) and the debounce machine, all reading the
registered state. -/
def DebounceLine.clock (cfg : Config) (raw : Bool) (l : DebounceLine) : DebounceLine :=
  { l.debounce cfg with sy1 := raw, sy2 := l.sy1 }

/-- One cycle of the twelve lines, each on its own fields and its own raw bit (R75, R111). -/
def sampleLines (cfg : Config) (raw : KeyVec) (ls : Vector DebounceLine 12) : Vector DebounceLine 12 :=
  Vector.ofFn fun k => ls[k].clock cfg (raw.getLsbD k)

/-- SAMPLE (R75, R100 to R109). -/
def execSample (raw : KeyVec) (s : State) : Result :=
  .next (s.withLines (sampleLines s.cfg raw s.lines))

end Sys2Proof.Machine
end

