-- ==== Sys2Proof/Machine/Mapper.lean ====
section
/-! DEFINITION. Unit PM: the operations BURST, STOP, CUE, CLICK, ADVANCE and SERVO (42_pwm_mapper.md). The
internal ones are performed when the cycle causes them (R143); their causes are resolved by the cycle, and
exec of one of them alone performs it (DEDUCED, log entry 13). -/

namespace Sys2Proof.Machine

/-- BURST (R144). -/
def execBurst (s : State) : Result :=
  .next (s.withSeq (.load .burst s.cfg.burstLen s.cfg.burstCount))

/-- STOP (R145). -/
def execStop (s : State) : Result := .next (s.withSeq .silence)

/-- CUE (R146). -/
def execCue (s : State) : Result := .next (s.withSeq (.load .cue s.cfg.cueLen 1#8))

/-- CLICK (R147): effective only in IDLE. -/
def execClick (s : State) : Result :=
  if s.cd.mode = .idle then .next (s.withSeq (.load .click s.cfg.clickLen 1#8)) else .next s

/-- ADVANCE (R148, R149). -/
def execAdvance (s : State) : Result := .next (s.withSeq (s.seq.clock s.cfg))

/-- SERVO (R152 to R154). -/
def execServo (startNow expiredNow : Bool) (s : State) : Result :=
  .next (s.withServo (s.servo.clock s.cfg startNow expiredNow))

end Sys2Proof.Machine
end

