-- ==== Sys2Proof/Machine/Dispatch.lean ====
section
/-! DEFINITION. The meaning of every operation of R73: what it writes in one cycle, reading the registered
state it is given (00_scope.md R12). What a cause in one unit does in another is the operation that unit
runs in the same cycle (Machine/Cycle.lean): DEDUCED, log entry 4. -/

namespace Sys2Proof.Machine

def exec (i : Instr) (s : State) : Host.Outcome State Fault Refusal :=
  match i with
  | .rst => Sys2Proof.Machine.execRst s
  | .sample raw => Sys2Proof.Machine.execSample raw s
  | .tick => Sys2Proof.Machine.execTick s
  | .start min sec => Sys2Proof.Machine.execStart min sec s
  | .ack => Sys2Proof.Machine.execAck s
  | .click => Sys2Proof.Machine.execClick s
  | .nop => Sys2Proof.Machine.execNop s
  | .done => Sys2Proof.Machine.execDone s
  | .burst => Sys2Proof.Machine.execBurst s
  | .stop => Sys2Proof.Machine.execStop s
  | .cue => Sys2Proof.Machine.execCue s
  | .advance => Sys2Proof.Machine.execAdvance s
  | .servo startNow expiredNow => Sys2Proof.Machine.execServo startNow expiredNow s

end Sys2Proof.Machine
end

