-- ==== Sys2Proof/Machine/Cycle.lean ====
section
/-! DEFINITION. One clock cycle (20_memory.md R54): take the cycle input word, decode it into the set of
requested operations (R82), choose which of them and of the internal operations run (R130, R143), run each
by exec ON THE SAME REGISTERED STATE (R12), and put the four units' results together. -/

namespace Sys2Proof.Machine

/-- The cycle input word of this cycle, and the state with it taken: the head of the script, or a free word
when the script is empty (log entry 2). -/
def fetchWord (s : State) : Word × State :=
  match s.script with
  | w :: rest => (w, { s with script := rest })
  | [] => (Config.freeWord s.drawn, { s with drawn := s.drawn + 1 })

/-- SAMPLE, if requested: it is, in every word without RST (R75). -/
def sampleOp (ops : List Instr) : Option Instr :=
  ops.find? fun i => match i with
    | .sample _ => true
    | _ => false

/-- START, if requested. -/
def startOp (ops : List Instr) : Option Instr :=
  ops.find? fun i => match i with
    | .start _ _ => true
    | _ => false

/-- The one countdown operation the cycle runs, by the REGISTERED mode (R130): IDLE enables only START,
RUNNING only TICK, EXPIRED only DONE and ACK, which are one transition (R127). -/
def countdownOp (ops : List Instr) (s : State) : Option Instr :=
  match s.cd.mode with
  | .idle => startOp ops
  | .running => if Instr.tick ∈ ops then some .tick else none
  | .expired =>
    if s.seq.finishing s.cfg then some .done
    else if Instr.ack ∈ ops then some .ack
    else none
  | .unused => none

/-- The one sequencer operation the cycle runs (R143). `now` is unit CD's result of this cycle, whose
strobes are the internal signals `expired_now`, `rearm_now` and `cue_now` (R120, R129); the mode is the
registered one. -/
def sequencerOp (ops : List Instr) (s : State) (now : Countdown) : Instr :=
  if now.evExpired then .burst
  else if now.evRearm then .stop
  else if now.evCue then .cue
  else if Instr.click ∈ ops ∧ s.cd.mode = .idle then .click
  else .advance

/-- Run an operation by exec, or go to the given state when there is none. -/
def runOr (op : Option Instr) (idle s : State) : Result :=
  match op with
  | some i => exec i s
  | none => .next idle

/-- The four units' results put together: DB of `a`, CD of `b`, the sequencer of `c`, the servo of `d`. Each
unit is written by one operation (R111, R158). -/
def State.merge (s a b c d : State) : State :=
  { s with lines := a.lines, cd := b.cd, seq := c.seq, servo := d.servo }

/-- The cycle of a set of requested operations from the registered state `s`. RST dominates (R74, R210). -/
def clockOps (ops : List Instr) (s : State) : Result :=
  if Instr.rst ∈ ops then exec .rst s
  else
    andThen (runOr (sampleOp ops) s s) fun a =>
    andThen (runOr (countdownOp ops s) (s.withCd s.cd.rest) s) fun b =>
    andThen (exec (sequencerOp ops s b.cd) s) fun c =>
    andThen (exec (.servo b.cd.evStart b.cd.evExpired) s) fun d =>
    .next (s.merge a b c d)

/-- One clock cycle. Parameters outside the constraints of R8 are refused (V7, log entry 3). -/
def cycle (s : State) : Result :=
  if s.cfg.Valid then clockOps (decodeWord (fetchWord s).1) (fetchWord s).2
  else .refused .configOutOfRange

/-- The state whose next cycle takes the word of `nbits` bits `w`, in place of the word it would have
taken. -/
def placeWord (s : State) (nbits w : Nat) : State :=
  { s with script := BitVec.ofNat 32 (w % 2 ^ nbits) :: s.script.tail }

end Sys2Proof.Machine
end

