-- ==== Sys2Proof/Machine/Step.lean ====
section
/-! DEFINITION. The step of the machine: one clock cycle (00_scope.md R12). -/

namespace Sys2Proof.Machine

/-- S[t+1] = step(S[t], in[t]) (R12), the input taken from the state's script. -/
def step (s : State) : Host.Outcome State Fault Refusal := cycle s

/-- The state whose next step takes its input from the given word (log entry 2: it stands for the
environment presenting that word). -/
def State.withFetchWord (s : State) (nbits w : Nat) : State := placeWord s nbits w

end Sys2Proof.Machine
end

