-- ==== Sys2Proof/Machine/Outputs.lean ====
section
/-! DEFINITION. The output ports (20_memory.md R57): functions of the state alone, in every cycle. -/

namespace Sys2Proof.Machine

/-- The output ports of R57. -/
structure Outputs where
  kev : KeyVec
  fwdValid : Bool
  fwdCode : BitVec 4
  inputEnable : Bool
  mode : BitVec 2
  rem : BitVec 13
  evStart : Bool
  evUpdate : Bool
  evCue : Bool
  evExpired : Bool
  evRearm : Bool
  buzOut : Bool
  buzDuty : BitVec 16
  servoOut : Bool
  servoPw : BitVec 16
deriving DecidableEq, Repr

/-- `input_enable` (R136). -/
def inputEnable (s : State) : Bool := s.cd.mode == .idle

/-- `fwd_valid`, the forwarding gate (R110). -/
def fwdValid (s : State) : Bool := s.cd.mode == .idle && kevVector s.lines != 0#12

/-- `fwd_code`, the lowest confirmed line while the gate is open, 0 otherwise (R110, R87). -/
def fwdCode (s : State) : BitVec 4 :=
  if fwdValid s then
    match lowestSet (kevVector s.lines) with
    | some k => BitVec.ofNat 4 k.val
    | none => 0#4
  else 0#4

/-- `buz_duty`, the compare value in force (R150). -/
def buzDuty (s : State) : BitVec 16 :=
  if s.seq.ph = .on then toneDuty s.cfg s.seq.kind else 0#16

/-- `buz_out`, the buzzer drive (R151). -/
def buzOut (s : State) : Bool := decide (s.seq.bcnt < buzDuty s)

/-- `servo_out`, the servo drive (R155). -/
def servoOut (s : State) : Bool := decide (s.servo.scnt < s.servo.act)

/-- out[t] = output(S[t]) (R12, R57). -/
def output (s : State) : Outputs where
  kev := kevVector s.lines
  fwdValid := fwdValid s
  fwdCode := fwdCode s
  inputEnable := inputEnable s
  mode := modeCode s.cd.mode
  rem := s.cd.rem
  evStart := s.cd.evStart
  evUpdate := s.cd.evUpdate
  evCue := s.cd.evCue
  evExpired := s.cd.evExpired
  evRearm := s.cd.evRearm
  buzOut := buzOut s
  buzDuty := buzDuty s
  servoOut := servoOut s
  servoPw := s.servo.cmd

end Sys2Proof.Machine
end

