-- ==== Sys2Proof/Machine/Environment.lean ====
section
/-! DEFINITION. The environment of the block (43_environment.md): the scanner's choice, the input
assembler's arithmetic, the reference environment ENV, the closed loop, and the display's arithmetic.
Nothing here is a step of the block (00_scope.md R6). What R184 leaves open: DEDUCED, log entry 10. -/

namespace Sys2Proof.Machine

/-- The scanner's result: the first pressed key in scan order, rows top to bottom, columns left to right
(R171), which is the order of the key-line numbers (R83). -/
def scan (pressed : KeyVec) : Option KeyLine := lowestSet pressed

/-- The `raw` port with that scanner in front: at most one bit is 1 (R171). -/
def scannedRaw (pressed : KeyVec) : KeyVec :=
  match scan pressed with
  | some k => 1#12 <<< k.val
  | none => 0

/-- PIN_LEN, the digit count of an entry: "3 or 4 depending on configuration" (R9, R174). -/
inductive PinLen where
  | three | four
deriving DecidableEq, Repr

/-- The number of digits. -/
def PinLen.toNat : PinLen → Nat
  | .three => 3
  | .four => 4

/-- The decimal value of a digit buffer, the first digit typed being the most significant (R175). -/
def decimal (digits : List (Fin 10)) : Nat := digits.foldl (fun p d => 10 * p + d.val) 0

/-- Minutes of the normalised Duration of a full buffer of value p (R175). -/
def durationMinutes (p : Nat) : Nat := p / 100 + p % 100 / 60

/-- Seconds of it (R175). -/
def durationSeconds (p : Nat) : Nat := p % 100 % 60

/-- Minutes shown for a count of remaining ticks (R180). -/
def displayMinutes (rem : BitVec 13) : Nat := rem.toNat / 60

/-- Seconds shown for it (R180). -/
def displaySeconds (rem : BitVec 13) : Nat := rem.toNat % 60

/-- The state of ENV (R184): the pin length, a constant of the environment (R9), and the InputBuffer, the
digits typed so far (R173). -/
structure Env where
  pinLen : PinLen
  buf : List (Fin 10)
deriving DecidableEq, Repr

/-- The free inputs of the closed loop (R184). -/
structure FreeInputs where
  rst : Bool
  ack : Bool
  tick : Bool
  raw : KeyVec
deriving DecidableEq, Repr

/-- The ports with no digit accepted: only the free inputs. -/
def freeOnly (free : FreeInputs) : CycleInput where
  rst := free.rst
  min := 0
  sec := 0
  click := false
  ack := free.ack
  start := false
  tick := free.tick
  raw := free.raw

/-- The ports with a digit accepted that does not complete the entry: the click. -/
def digitAccepted (free : FreeInputs) : CycleInput := { freeOnly free with click := true }

/-- The ports with the completing digit: the click and the START of the normalised Duration. -/
def entryComplete (free : FreeInputs) (p : Nat) : CycleInput :=
  { freeOnly free with
    click := true
    start := true
    min := BitVec.ofNat 7 (durationMinutes p)
    sec := BitVec.ofNat 6 (durationSeconds p) }

/-- The buffer after an idle entry (listing of R184). -/
def Env.rearmed (e : Env) (o : Outputs) : Env := if o.evRearm then { e with buf := [] } else e

/-- One cycle of ENV's input assembler (listing of R184), RST aside. The digit is appended to the buffer
the cycle started with. -/
def Env.assemble (e : Env) (o : Outputs) (free : FreeInputs) : CycleInput × Env :=
  if h : o.fwdValid = true ∧ o.fwdCode.toNat < 12 then
    match digitValue ⟨o.fwdCode.toNat, h.2⟩ with
    | none => (freeOnly free, e.rearmed o)
    | some d =>
      if e.buf.length < e.pinLen.toNat then
        if (e.buf ++ [d]).length = e.pinLen.toNat then
          (entryComplete free (decimal (e.buf ++ [d])), { e with buf := [] })
        else (digitAccepted free, { e with buf := e.buf ++ [d] })
      else (freeOnly free, e.rearmed o)
  else (freeOnly free, e.rearmed o)

/-- One cycle of ENV (R184): combinational from the block's outputs; the buffer is empty after RST. -/
def Env.react (e : Env) (o : Outputs) (free : FreeInputs) : CycleInput × Env :=
  ((e.assemble o free).1, if free.rst then { e with buf := [] } else (e.assemble o free).2)

/-- The closed loop of the block and ENV (R184). -/
structure Loop where
  block : State
  env : Env
deriving DecidableEq, Repr

/-- One cycle of the closed loop: ENV reads the outputs of the cycle and presents the word of the same
cycle. -/
def Loop.step (l : Loop) (free : FreeInputs) : Host.Outcome Loop Fault Refusal :=
  let drive := l.env.react (output l.block) free
  match Machine.step (l.block.present drive.1.toWord) with
  | .next s => .next { block := s, env := drive.2 }
  | .fault e => .fault e
  | .refused e => .refused e

end Sys2Proof.Machine
end

