-- ==== Sys2Proof/Machine/Script.lean ====
section
/-! DEFINITION. The stimulus script (30_encoding.md R91, R92): one line is one cycle. Its items and the word a
line assembles to, the pseudo-instructions, and the reader of its text. Log entry 11. -/

namespace Sys2Proof.Machine

/-- An item of a script line (R91); the operand ranges are the types'. -/
inductive ScriptItem where
  | rst
  | tick
  | start (min : BitVec 7) (sec : BitVec 6)
  | ack
  | click
  | keys (raw : KeyVec)
  | key (k : KeyLine)
  | nop
deriving DecidableEq, Repr

/-- The bits an item contributes (R91, placed as in R71). -/
def itemWord : ScriptItem → Word
  | .rst => 0x80000000
  | .tick => 0x00001000
  | .start min sec => 0x00002000 ||| (min.setWidth 32 <<< 22) ||| (sec.setWidth 32 <<< 16)
  | .ack => 0x00004000
  | .click => 0x00008000
  | .keys raw => raw.setWidth 32
  | .key k => 1#32 <<< k.val
  | .nop => 0

/-- The word a line assembles to: the OR of its items' fields (R91). -/
def assembleLine : List ScriptItem → Word
  | [] => 0
  | i :: rest => itemWord i ||| assembleLine rest

/-- Two items of one kind, KEY aside, or NOP with one of TICK, START, ACK, CLICK: what one line may not hold
(R91). R91 does not say whether RST and NOP may share a line; they may here, and the line is the word of RST.
DESIGN CHOICE, log entry 11. -/
def itemsClash : ScriptItem → ScriptItem → Bool
  | .rst, .rst | .tick, .tick | .start _ _, .start _ _ | .ack, .ack | .click, .click | .keys _, .keys _
  | .nop, .nop => true
  | .nop, .tick | .nop, .start _ _ | .nop, .ack | .nop, .click => true
  | .tick, .nop | .start _ _, .nop | .ack, .nop | .click, .nop => true
  | _, _ => false

/-- The checks on the items of one line (R91). -/
def lineWellFormed : List ScriptItem → Bool
  | [] => true
  | i :: rest => rest.all (fun j => !itemsClash i j) && lineWellFormed rest

/-- `IDLE n`: n words of zeros (R92). -/
def scriptIdle (n : Nat) : List Word := List.replicate n 0

/-- `HOLD raw, n`: n words `KEYS raw` (R92). -/
def scriptHold (raw : KeyVec) (n : Nat) : List Word := List.replicate n (assembleLine [.keys raw])

/-- `PRESS k, n`: `HOLD` with only bit k set (R92). -/
def scriptPress (k : KeyLine) (n : Nat) : List Word := List.replicate n (assembleLine [.key k])

/-- A text cut at every occurrence of a character. -/
def cutAt (c : Char) : List Char → List (List Char)
  | [] => [[]]
  | x :: xs =>
    if x = c then [] :: cutAt c xs
    else match cutAt c xs with
      | [] => [[x]]
      | g :: gs => (x :: g) :: gs

/-- The words of a text between blanks. -/
def blankWords (text : List Char) : List (List Char) := (cutAt ' ' text).filter fun t => !t.isEmpty

/-- The value of a hexadecimal digit. -/
def digitOf (c : Char) : Option Nat :=
  if '0'.toNat ≤ c.toNat ∧ c.toNat ≤ '9'.toNat then some (c.toNat - '0'.toNat)
  else if 'a'.toNat ≤ c.toNat ∧ c.toNat ≤ 'f'.toNat then some (c.toNat - 'a'.toNat + 10)
  else if 'A'.toNat ≤ c.toNat ∧ c.toNat ≤ 'F'.toNat then some (c.toNat - 'A'.toNat + 10)
  else none

/-- A numeral's value, continued from the digits read so far. -/
def numeralFrom (base acc : Nat) : List Char → Option Nat
  | [] => some acc
  | c :: cs =>
    match digitOf c with
    | none => none
    | some d => if d < base then numeralFrom base (base * acc + d) cs else none

/-- The value of a numeral of at least one digit. -/
def numeral (base : Nat) (cs : List Char) : Option Nat := if cs = [] then none else numeralFrom base 0 cs

/-- A 12-bit field written `0xhhh` (R91). -/
def readRaw : List Char → Option KeyVec
  | ['0', 'x', a, b, c] => (numeral 16 [a, b, c]).map (BitVec.ofNat 12)
  | _ => none

/-- A key-line number 0 to 11, decimal. -/
def readKey (t : List Char) : Option KeyLine :=
  match numeral 10 t with
  | none => none
  | some n => if h : n < 12 then some ⟨n, h⟩ else none

/-- The operands `m:s` of START, m at most 127 and s at most 63 (R91). -/
def readDuration (t : List Char) : Option ScriptItem :=
  match cutAt ':' t with
  | [m, c] =>
    match numeral 10 m, numeral 10 c with
    | some m, some c => if m < 128 ∧ c < 64 then some (.start (BitVec.ofNat 7 m) (BitVec.ofNat 6 c)) else none
    | _, _ => none
  | _ => none

/-- One item of a line, given as its blank-separated words (R91). -/
def readItem : List (List Char) → Option ScriptItem
  | [['R', 'S', 'T']] => some .rst
  | [['T', 'I', 'C', 'K']] => some .tick
  | [['S', 'T', 'A', 'R', 'T'], d] => readDuration d
  | [['A', 'C', 'K']] => some .ack
  | [['C', 'L', 'I', 'C', 'K']] => some .click
  | [['K', 'E', 'Y', 'S'], r] => (readRaw r).map .keys
  | [['K', 'E', 'Y'], k] => (readKey k).map .key
  | [['N', 'O', 'P']] => some .nop
  | _ => none

/-- The items of a line, none if one of them is no item. -/
def readItems : List (List Char) → Option (List ScriptItem)
  | [] => some []
  | t :: ts =>
    match readItem (blankWords t), readItems ts with
    | some i, some is => some (i :: is)
    | _, _ => none

/-- The cycle input words of one line of script text, its comment dropped (R91, R92): one word, the words of
a pseudo-instruction, no word for a line of blanks (log entry 11); none for a line that is no script. -/
def readLine (text : List Char) : Option (List Word) :=
  let groups := cutAt ',' (text.takeWhile fun c => c != ';')
  match groups.map blankWords with
  | [[]] => some []
  | [[['I', 'D', 'L', 'E'], n]] => (numeral 10 n).map scriptIdle
  | [[['H', 'O', 'L', 'D'], r], [n]] =>
    match readRaw r, numeral 10 n with
    | some r, some n => some (scriptHold r n)
    | _, _ => none
  | [[['P', 'R', 'E', 'S', 'S'], k], [n]] =>
    match readKey k, numeral 10 n with
    | some k, some n => some (scriptPress k n)
    | _, _ => none
  | _ =>
    match readItems groups with
    | some is => if lineWellFormed is then some [assembleLine is] else none
    | none => none

/-- The cycle input words of a whole script, line by line; none if a line is no script. -/
def readScript : List (List Char) → Option (List Word)
  | [] => some []
  | l :: ls =>
    match readLine l, readScript ls with
    | some ws, some vs => some (ws ++ vs)
    | _, _ => none

end Sys2Proof.Machine
end

