-- ==== Sys2Proof/Safety.lean ====
section
/-! DEFINITION. The invariants of the reachable states (10_state.md R45 to R48) and the words claims use
about runs. -/

namespace Sys2Proof.Machine

/-- Unit CD (R45). -/
structure Countdown.Inv (c : Countdown) : Prop where
  mode_used : c.mode ≠ .unused
  running_range : c.mode = .running → 1 ≤ c.rem.toNat ∧ c.rem.toNat ≤ 7683
  rest_zero : c.mode = .idle ∨ c.mode = .expired → c.rem = 0#13
  start_running : c.evStart = true → c.mode = .running
  update_running : c.evUpdate = true → c.mode = .running
  expired_expired : c.evExpired = true → c.mode = .expired
  rearm_idle : c.evRearm = true → c.mode = .idle

/-- One line of unit DB (R47). -/
structure DebounceLine.Inv (cfg : Config) (l : DebounceLine) : Prop where
  phase_used : l.dph ≠ .unused
  settle_range : l.dph = .settle → 1 ≤ l.dcnt.toNat ∧ l.dcnt.toNat ≤ cfg.tSettle.toNat
  other_zero : l.dph ≠ .settle → l.dcnt = 0#16
  event_held : l.kev = true → l.dph = .held

/-- The sequencer, with the mode it depends on (R48). -/
structure Sequencer.Inv (cfg : Config) (mode : Mode) (q : Sequencer) : Prop where
  phase_used : q.ph ≠ .unused
  off_none : q.ph = .off ↔ q.kind = .none
  off_zero : q.ph = .off → q.left = 0#16 ∧ q.rep = 0#8 ∧ q.bcnt = 0#16
  tone_range : q.ph ≠ .off → 1 ≤ q.left.toNat ∧ 1 ≤ q.rep.toNat ∧ q.bcnt.toNat < cfg.buzPeriod.toNat
  single_pulse : q.kind = .click ∨ q.kind = .cue → q.ph = .on ∧ q.rep = 1#8
  gap_burst : q.ph = .gap → q.kind = .burst
  expired_burst : mode = .expired → q.kind = .burst
  idle_quiet : mode = .idle → q.kind = .none ∨ q.kind = .click
  running_no_burst : mode = .running → q.kind ≠ .burst

/-- The servo part (R48). -/
structure Servo.Inv (cfg : Config) (v : Servo) : Prop where
  count_range : v.scnt.toNat < cfg.servoPeriod.toNat
  cmd_width : v.cmd = cfg.servoRunPw ∨ v.cmd = cfg.servoIdlePw
  act_width : v.act = cfg.servoRunPw ∨ v.act = cfg.servoIdlePw

/-- The invariants of the reachable states together, over a configuration within R8's constraints. -/
structure State.Inv (s : State) : Prop where
  config : s.cfg.Valid
  lines : ∀ k : KeyLine, s.lines[k].Inv s.cfg
  countdown : s.cd.Inv
  sequencer : s.seq.Inv s.cfg s.cd.mode
  servo : s.servo.Inv s.cfg

/-- `t` is the state reached from `s` by the cycles whose input words are `ws`, one word a cycle (R70). -/
def Run : List Word → State → State → Prop
  | [], s, t => t = s
  | w :: ws, s, t => ∃ m, step (s.present w) = .next m ∧ Run ws m t

/-- No word of the sequence requests RST. -/
abbrev NoRst (ws : List Word) : Prop := ∀ w ∈ ws, w[31] = false

/-- The words that request TICK (R76), counted. -/
def tickCount (ws : List Word) : Nat := (ws.filter fun w => w[12]).length

/-- A word with no strobe and no RST (R80). -/
abbrev Quiet (w : Word) : Prop :=
  w[31] = false ∧ w[15] = false ∧ w[14] = false ∧ w[13] = false ∧ w[12] = false

/-- No cycle of the run from `s` interrupts a tone (R143, R156): none has RST, and none causes BURST, STOP, CUE
or an effective CLICK. -/
def Uninterrupted : List Word → State → Prop
  | [], _ => True
  | w :: ws, s =>
    w[31] = false ∧ ¬ (w[15] = true ∧ s.cd.mode = .idle) ∧
    ∀ t, step (s.present w) = .next t →
      t.cd.evExpired = false ∧ t.cd.evRearm = false ∧ t.cd.evCue = false ∧ Uninterrupted ws t

/-- L of R157: the length of an expiry burst in clock cycles. -/
def burstCycles (c : Config) : Nat :=
  (c.burstCount.toNat * c.burstLen.toNat + (c.burstCount.toNat - 1) * c.burstGap.toNat) * c.buzPeriod.toNat

end Sys2Proof.Machine
end

