-- ==== Sys2Proof/Certificates/Slice0/Obligations.lean ====
section
/-! DEFINITION. The statements about the block, each from the rules its docstring names. The parameters are
those of any configuration within R8's constraints unless a statement says otherwise. -/

open Sys2Proof Sys2Proof.Machine

/-- R73, R82, R91: every set of operations a word can request, with every operand at every value, is what
the decoder reads from the word that encodes it. -/
def Obligations.RequestSetsRoundTrip : Prop :=
  ∀ ops : List Instr, Instr.requestSet ops = true → decodeWord (encodeSet ops) = ops

/-- R72, R74, R77: the word with its ignored bits cleared requests the same set, and is the encoding of
that set. -/
def Obligations.IgnoredBitsCarryNothing : Prop :=
  ∀ w : Word, decodeWord (canonicalWord w) = decodeWord w ∧ encodeSet (decodeWord w) = canonicalWord w

/-- R71: packing and unpacking the input ports loses nothing but the reserved bits CW[30:29]. -/
def Obligations.PortsPackAndUnpack : Prop :=
  (∀ c : CycleInput, CycleInput.ofWord c.toWord = c) ∧
  (∀ w : Word, (CycleInput.ofWord w).toWord = w &&& 0x9FFFFFFF#32)

/-- R73: an operation with an encoding is in the set its word requests, and names that word unless it is
SAMPLE, which every word without RST requests (naming: the model's choice, log entry 5). -/
def Obligations.EncodedOperationIsDecoded : Prop :=
  ∀ (i : Instr) (w : Word), encode i = some w →
    i ∈ decodeWord w ∧ ((∀ raw, i ≠ .sample raw) → decodeTableWord 32 w.toNat = some i)

/-- R74, R78, R79, R82: which bits select which operation; the decoder is total. -/
def Obligations.DecodedSetIsTheSelectedOperations : Prop :=
  ∀ w : Word,
    (w[31] = true → decodeWord w = [.rst]) ∧
    (w[31] = false →
      Instr.rst ∉ decodeWord w ∧
      (∀ raw, Instr.sample raw ∈ decodeWord w ↔ raw = w.extractLsb' 0 12) ∧
      (Instr.tick ∈ decodeWord w ↔ w[12] = true) ∧
      (∀ m c, Instr.start m c ∈ decodeWord w ↔ w[13] = true ∧ m = w.extractLsb' 22 7 ∧ c = w.extractLsb' 16 6) ∧
      (Instr.ack ∈ decodeWord w ↔ w[14] = true) ∧
      (Instr.click ∈ decodeWord w ↔ w[15] = true) ∧
      (Instr.nop ∈ decodeWord w ↔ w[15] = false ∧ w[14] = false ∧ w[13] = false ∧ w[12] = false) ∧
      (∀ i ∈ decodeWord w, i.external = true))

/-- Words of the spec's encoding (R91 and the vectors E2 to E19) decode to what they stand for; the word 0
is named NOP (naming: log entry 5). -/
def Obligations.WordsOfTheSpecDecode : Prop :=
  decodeWord 0x80000000#32 = [.rst] ∧
  decodeWord 0x80413010#32 = [.rst] ∧
  decodeWord 0x00000010#32 = [.sample 0x010#12, .nop] ∧
  decodeWord 0x00001010#32 = [.sample 0x010#12, .tick] ∧
  decodeWord 0x005E2000#32 = [.sample 0#12, .start 1#7 30#6] ∧
  decodeWord 0x1FFF2000#32 = [.sample 0#12, .start 127#7 63#6] ∧
  decodeWord 0x00004000#32 = [.sample 0#12, .ack] ∧
  decodeWord 0x005EA000#32 = [.sample 0#12, .start 1#7 30#6, .click] ∧
  decodeTableWord 32 0 = some .nop

/-- R54, R82: a step runs the decoded operations. Under RST it is exec of RST; otherwise every unit's new
value is that of exec of its operation of the cycle on the registered state: SAMPLE; `countdownOp`'s operation
(or the unit's resting cycle); `sequencerOp`'s, from unit CD's signals; SERVO with those signals. That each
unit takes exec of its own operation, and the step puts the four together, is the model's reading (DEDUCED,
log entry 4). Which operations the two functions choose is what CountdownTransitionTable and
SequencerPriority say. -/
def Obligations.StepRunsDecodedOperations : Prop :=
  ∀ (s : State) (w : Word), s.cfg.Valid →
    (w[31] = true → decodeWord w = [.rst] ∧ step (s.present w) = exec .rst s) ∧
    (w[31] = false → ∃ a b c d,
      Instr.sample (rawField w) ∈ decodeWord w ∧
      exec (.sample (rawField w)) s = .next a ∧
      runOr (countdownOp (decodeWord w) s) (s.withCd s.cd.rest) s = .next b ∧
      exec (sequencerOp (decodeWord w) s b.cd) s = .next c ∧
      exec (.servo b.cd.evStart b.cd.evExpired) s = .next d ∧
      step (s.present w) = .next (s.merge a b c d))

/-- R130, R143: what exec leaves of a decoded operation's unit is what the step leaves of it: of SAMPLE always,
of TICK, START and ACK in the mode that enables them, of CLICK in IDLE unless a zero-duration START
overrides it. -/
def Obligations.EnabledOperationReachesTheStep : Prop :=
  ∀ (s t e : State) (w : Word) (i : Instr), w[31] = false → i ∈ decodeWord w →
    exec i s = .next e → step (s.present w) = .next t →
    (∀ raw, i = .sample raw → t.lines = e.lines) ∧
    (i = .tick → s.cd.mode = .running → t.cd = e.cd) ∧
    (∀ m c, i = .start m c → s.cd.mode = .idle → t.cd = e.cd) ∧
    (i = .ack → s.cd.mode = .expired → t.cd = e.cd) ∧
    (i = .click → s.cd.mode = .idle →
      (∀ m c, Instr.start m c ∈ decodeWord w → startTicks m c ≠ 0#13) → t.seq = e.seq)

/-- R190: with parameters within R8's constraints every step answers a next state, whatever the state and
whatever the environment presents; outside them the model refuses (V7, log entry 3). -/
def Obligations.StepAnswersExactlyOnValidParameters : Prop :=
  (∀ s : State, s.cfg.Valid → ∃ t, step s = .next t) ∧
  (∀ s : State, ¬ s.cfg.Valid → step s = .refused .configOutOfRange)

/-- R211, R212: a word with RST leaves every field of the block at its reset value, whatever the state and
whatever the word's other bits. That the script and the count of free words stay is the model's reading
(DEDUCED, log entry 12). -/
def Obligations.ResetWordResetsEveryField : Prop :=
  ∀ (s : State) (w : Word), s.cfg.Valid → w[31] = true → ∃ t, step (s.present w) = .next t ∧
    (∀ k : KeyLine, t.lines[k].sy1 = false ∧ t.lines[k].sy2 = false ∧ t.lines[k].dph = .idle ∧
      t.lines[k].dcnt = 0#16 ∧ t.lines[k].kev = false) ∧
    t.cd.mode = .idle ∧ t.cd.rem = 0#13 ∧ t.cd.evStart = false ∧ t.cd.evUpdate = false ∧ t.cd.evCue = false ∧
    t.cd.evExpired = false ∧ t.cd.evRearm = false ∧
    t.seq.ph = .off ∧ t.seq.kind = .none ∧ t.seq.left = 0#16 ∧ t.seq.rep = 0#8 ∧ t.seq.bcnt = 0#16 ∧
    t.servo.cmd = s.cfg.servoIdlePw ∧ t.servo.act = s.cfg.servoIdlePw ∧ t.servo.scnt = 0#16 ∧
    t.cfg = s.cfg ∧ t.script = s.script ∧ t.drawn = s.drawn

/-- R210: exec of RST answers the reset state of the same instance, whatever the state. That the script and the
count of free words stay is the model's reading (DEDUCED, log entry 12). -/
def Obligations.RstCompletes : Prop :=
  ∀ s : State, exec .rst s = .next (State.resetOf s.cfg s.script s.drawn)

/-- R213: the outputs in the reset state of any instance. -/
def Obligations.ResetOutputs : Prop :=
  ∀ (c : Config) (ws : List Word) (n : Nat),
    output (State.resetOf c ws n) =
      { kev := 0#12, fwdValid := false, fwdCode := 0#4, inputEnable := true, mode := 0#2, rem := 0#13,
        evStart := false, evUpdate := false, evCue := false, evExpired := false, evRearm := false,
        buzOut := false, buzDuty := 0#16, servoOut := decide (0 < c.servoIdlePw.toNat),
        servoPw := c.servoIdlePw }

/-- R80: NOP is no operation of its own; in a cycle whose word has no strobe the lines are sampled, the
servo runs, and outside EXPIRED the sequencer advances and the mode stays. -/
def Obligations.NopCycleStillRuns : Prop :=
  ∀ s : State, exec .nop s = .next s ∧
    ∀ w : Word, s.cfg.Valid → Quiet w → s.cd.mode = .idle ∨ s.cd.mode = .running →
      ∃ t a b c, step (s.present w) = .next t ∧ exec (.sample (rawField w)) s = .next a ∧
        exec .advance s = .next b ∧ exec (.servo false false) s = .next c ∧
        t.lines = a.lines ∧ t.seq = b.seq ∧ t.servo = c.servo ∧ t.cd.mode = s.cd.mode ∧ t.cd.rem = s.cd.rem

/-- R103, R104, R105, R106, R109: SAMPLE writes the debounce fields of every line by the row its phase
selects, the sample being the registered `sy2`. -/
def Obligations.SampleDebouncesEveryLine : Prop :=
  ∀ (raw : KeyVec) (s : State), ∃ ls, exec (.sample raw) s = .next { s with lines := ls } ∧
    ∀ k : KeyLine,
      (s.lines[k].dph = .idle → s.lines[k].sy2 = false →
        ls[k].dph = .idle ∧ ls[k].dcnt = s.lines[k].dcnt ∧ ls[k].kev = false) ∧
      (s.lines[k].dph = .idle → s.lines[k].sy2 = true →
        ls[k].dph = .settle ∧ ls[k].dcnt = s.cfg.tSettle ∧ ls[k].kev = false) ∧
      (s.lines[k].dph = .settle → 1 < s.lines[k].dcnt.toNat →
        ls[k].dph = .settle ∧ ls[k].dcnt = s.lines[k].dcnt - 1#16 ∧ ls[k].kev = false) ∧
      (s.lines[k].dph = .settle → s.lines[k].dcnt.toNat ≤ 1 → s.lines[k].sy2 = true →
        ls[k].dph = .held ∧ ls[k].dcnt = 0#16 ∧ ls[k].kev = true) ∧
      (s.lines[k].dph = .settle → s.lines[k].dcnt.toNat ≤ 1 → s.lines[k].sy2 = false →
        ls[k].dph = .idle ∧ ls[k].dcnt = 0#16 ∧ ls[k].kev = false) ∧
      (s.lines[k].dph = .held → s.lines[k].sy2 = true →
        ls[k].dph = .held ∧ ls[k].kev = false) ∧
      (s.lines[k].dph = .held → s.lines[k].sy2 = false →
        ls[k].dph = .idle ∧ ls[k].kev = false) ∧
      (s.lines[k].dph = .unused → ls[k].dph = .idle ∧ ls[k].dcnt = 0#16 ∧ ls[k].kev = false)

/-- The settle counter outside its interval: a line in DB_HELD keeps its count (DEDUCED, log entry 9: R106 does
not write the field, R12), which is 0 in every reachable state, as the table of R102 has it. -/
def Obligations.HeldPhaseKeepsTheCount : Prop :=
  ∀ (raw : KeyVec) (s : State), ∃ ls, exec (.sample raw) s = .next { s with lines := ls } ∧
    ∀ k : KeyLine, s.lines[k].dph = .held → ls[k].dcnt = s.lines[k].dcnt ∧
      (s.lines[k].Inv s.cfg → ls[k].dcnt = 0#16)

/-- R100, R101: the synchroniser's two stages copy in every cycle, so that the sample is the raw bit of two
cycles before, and 0 in the two cycles after reset. -/
def Obligations.SynchroniserDelaysTwoCycles : Prop :=
  (∀ (raw : KeyVec) (s : State), ∃ ls, exec (.sample raw) s = .next { s with lines := ls } ∧
    ∀ k : KeyLine, ls[k].sy1 = raw.getLsbD k ∧ ls[k].sy2 = s.lines[k].sy1) ∧
  (∀ (s : State) (w0 w1 : Word), s.cfg.Valid → w0[31] = false → w1[31] = false →
    ∃ t, Run [w0, w1] s t ∧ ∀ k : KeyLine, t.lines[k].sy2 = w0.getLsbD k) ∧
  (∀ (c : Config) (ws : List Word) (n : Nat) (k : KeyLine), (State.resetOf c ws n).lines[k].sy2 = false) ∧
  (∀ (c : Config) (ws : List Word) (n : Nat) (w : Word), c.Valid → w[31] = false →
    ∃ t, step ((State.resetOf c ws n).present w) = .next t ∧ ∀ k : KeyLine, t.lines[k].sy2 = false)

/-- R111: what a cycle does to line k depends on that line, its own raw bit and T_SETTLE alone: not on the
other lines, nor on the countdown, the sequencer, the servo or the strobes. -/
def Obligations.LinesAreIndependent : Prop :=
  ∀ (s1 s2 t1 t2 : State) (w1 w2 : Word) (k : KeyLine),
    w1[31] = false → w2[31] = false → s1.cfg.tSettle = s2.cfg.tSettle → s1.lines[k] = s2.lines[k] →
    w1.getLsbD k = w2.getLsbD k →
    step (s1.present w1) = .next t1 → step (s2.present w2) = .next t2 → t1.lines[k] = t2.lines[k]

/-- R112: exactly one event per clean press, T_SETTLE + 3 cycles after its first captured 1, and the line is
in DB_IDLE again 4 cycles after its last. -/
def Obligations.CleanPressGivesExactlyOneEvent : Prop :=
  ∀ (s : State) (k : KeyLine) (press release : List Word),
    s.cfg.Valid → s.lines[k].dph = .idle → s.lines[k].sy1 = false → s.lines[k].sy2 = false →
    s.lines[k].kev = false →
    NoRst (press ++ release) → s.cfg.tSettle.toNat < press.length → release.length = 3 →
    (∀ w ∈ press, w.getLsbD k = true) → (∀ w ∈ release, w.getLsbD k = false) →
    (∀ j, j ≤ press.length + 3 → ∃ t, Run ((press ++ release).take j) s t ∧
      (t.lines[k].kev = true ↔ j = s.cfg.tSettle.toNat + 3)) ∧
    (∃ t, Run (press ++ release) s t ∧ t.lines[k].dph = .idle)

/-- R113: a detection whose confirming sample, T_SETTLE cycles later, is 0 gives no event, and the line is in
DB_IDLE one cycle after that sample. -/
def Obligations.BounceAloneGivesNoEvent : Prop :=
  ∀ (s : State) (k : KeyLine) (ws : List Word),
    s.cfg.Valid → s.lines[k].dph = .idle → s.lines[k].sy2 = true → NoRst ws →
    ws.length = s.cfg.tSettle.toNat + 1 →
    (∀ u, Run (ws.take s.cfg.tSettle.toNat) s u → u.lines[k].sy2 = false) →
    (∀ j, 1 ≤ j → j ≤ ws.length → ∃ t, Run (ws.take j) s t ∧ t.lines[k].kev = false) ∧
    (∃ t, Run ws s t ∧ t.lines[k].dph = .idle)

/-- R107: after a line is held, its next event is at least T_SETTLE + 2 cycles away. -/
def Obligations.EventsOfOneLineAreSpaced : Prop :=
  ∀ (s : State) (k : KeyLine) (ws : List Word),
    s.cfg.Valid → s.lines[k].dph = .held → NoRst ws → 1 ≤ ws.length →
    ws.length ≤ s.cfg.tSettle.toNat + 1 → ∃ t, Run ws s t ∧ t.lines[k].kev = false

/-- R108, R110, R136: the ungated and the gated view of the confirmed keys. -/
def Obligations.ForwardingGate : Prop :=
  ∀ s : State,
    (∀ k : KeyLine, (output s).kev.getLsbD k = s.lines[k].kev) ∧
    ((output s).inputEnable = true ↔ s.cd.mode = .idle) ∧
    ((output s).fwdValid = true ↔ s.cd.mode = .idle ∧ ∃ k : KeyLine, s.lines[k].kev = true) ∧
    ((output s).fwdValid = true → ∃ k : KeyLine, (output s).fwdCode.toNat = k.val ∧
      s.lines[k].kev = true ∧ ∀ j : KeyLine, j < k → s.lines[j].kev = false) ∧
    ((output s).fwdValid = false → (output s).fwdCode = 0#4)

/-- R85, R123: START with N ≥ 1 in IDLE loads N = 60·min + sec, whatever the operands' range. That exec of START
changes unit CD alone is the model's reading (DEDUCED, log entry 4); StartIsOneStep has the servo too. -/
def Obligations.StartBeginsACountdown : Prop :=
  ∀ (m : BitVec 7) (c : BitVec 6) (s : State), s.cd.mode = .idle → 1 ≤ m.toNat * 60 + c.toNat →
    ∃ n : BitVec 13, n.toNat = m.toNat * 60 + c.toNat ∧ n.toNat ≤ 7683 ∧
      exec (.start m c) s = .next { s with cd :=
        { mode := .running, rem := n, evStart := true, evUpdate := false, evCue := false, evExpired := false,
          evRearm := false } }

/-- R124: START with a zero duration in IDLE expires on the call. That exec of START changes unit CD alone is
the model's reading (DEDUCED, log entry 4); ExpiryIsOneStep has the burst and the servo too. -/
def Obligations.ZeroStartExpiresOnTheCall : Prop :=
  ∀ s : State, s.cd.mode = .idle →
    exec (.start 0#7 0#6) s = .next { s with cd :=
      { mode := .expired, rem := 0#13, evStart := false, evUpdate := false, evCue := false, evExpired := true,
        evRearm := false } }

/-- R125: TICK with more than one unit left decrements, and cues on a multiple of CADENCE. That exec of TICK
changes unit CD alone is the model's reading (DEDUCED, log entry 4). -/
def Obligations.TickDecrements : Prop :=
  ∀ s : State, s.cfg.Valid → s.cd.mode = .running → 1 < s.cd.rem.toNat →
    ∃ r : BitVec 13, r.toNat = s.cd.rem.toNat - 1 ∧
      exec .tick s = .next { s with cd :=
        { mode := .running, rem := r, evStart := false, evUpdate := true,
          evCue := decide (r.toNat % s.cfg.cadence.toNat = 0), evExpired := false, evRearm := false } }

/-- R126: TICK on the last unit expires. That exec of TICK changes unit CD alone is the model's reading (DEDUCED,
log entry 4); ExpiryIsOneStep has the burst and the servo too. -/
def Obligations.LastTickExpires : Prop :=
  ∀ s : State, s.cd.mode = .running → s.cd.rem.toNat ≤ 1 →
    exec .tick s = .next { s with cd :=
      { mode := .expired, rem := 0#13, evStart := false, evUpdate := false, evCue := false, evExpired := true,
        evRearm := false } }

/-- R127, R141: ACK in EXPIRED re-arms; so does DONE in the last cycle of the burst. That exec of
ACK and of DONE changes unit CD alone is the model's reading (DEDUCED, log entry 4), and so is the guard of
exec of DONE (DEDUCED, log entry 13); RearmSilencesInOneStep has the sequencer too. -/
def Obligations.AckAndDoneRearm : Prop :=
  ∀ s : State, s.cd.mode = .expired →
    exec .ack s = .next { s with cd :=
      { mode := .idle, rem := 0#13, evStart := false, evUpdate := false, evCue := false, evExpired := false,
        evRearm := true } } ∧
    (s.seq.ph = .on → s.seq.kind = .burst → s.seq.left.toNat ≤ 1 → s.seq.rep.toNat ≤ 1 →
      s.seq.bcnt = s.cfg.buzPeriod - 1#16 →
      exec .done s = .next { s with cd :=
        { mode := .idle, rem := 0#13, evStart := false, evUpdate := false, evCue := false, evExpired := false,
          evRearm := true } })

/-- R190, R194, R195, R196: an operation whose guard fails changes no state. -/
def Obligations.AbsorbedOperationsChangeNothing : Prop :=
  ∀ s : State,
    (∀ m c, s.cd.mode ≠ .idle → exec (.start m c) s = .next s) ∧
    (s.cd.mode ≠ .running → exec .tick s = .next s) ∧
    (s.cd.mode ≠ .expired → exec .ack s = .next s) ∧
    (s.cd.mode ≠ .expired → exec .done s = .next s) ∧
    (s.cd.mode ≠ .idle → exec .click s = .next s)

/-- R122, R125, R127, R147: a strobe whose guard fails leaves no trace in the step: the step is that of the
word without the strobe. -/
def Obligations.AbsorbedStrobesLeaveNoTrace : Prop :=
  ∀ (s : State) (w : Word),
    (s.cd.mode ≠ .idle → step (s.present w) = step (s.present (w &&& ~~~0x00002000#32))) ∧
    (s.cd.mode ≠ .running → step (s.present w) = step (s.present (w &&& ~~~0x00001000#32))) ∧
    (s.cd.mode ≠ .expired → step (s.present w) = step (s.present (w &&& ~~~0x00004000#32))) ∧
    (s.cd.mode ≠ .idle → step (s.present w) = step (s.present (w &&& ~~~0x00008000#32)))

/-- R121, R128, R129: unit CD after a cycle without RST, row by row of the transition table, with all five
strobes. -/
def Obligations.CountdownTransitionTable : Prop :=
  ∀ (s : State) (w : Word), s.cfg.Valid → w[31] = false → ∃ t, step (s.present w) = .next t ∧
    (s.cd.mode = .idle → w[13] = true → startTicks (minField w) (secField w) ≠ 0#13 →
      t.cd = strobed .running (startTicks (minField w) (secField w)) true false false false false) ∧
    (s.cd.mode = .idle → w[13] = true → startTicks (minField w) (secField w) = 0#13 →
      t.cd = strobed .expired 0#13 false false false true false) ∧
    (s.cd.mode = .idle → w[13] = false → t.cd = strobed .idle s.cd.rem false false false false false) ∧
    (s.cd.mode = .running → w[12] = true → 1 < s.cd.rem.toNat →
      t.cd = strobed .running (s.cd.rem - 1#13) false true
        (decide ((s.cd.rem - 1#13).toNat % s.cfg.cadence.toNat = 0)) false false) ∧
    (s.cd.mode = .running → w[12] = true → s.cd.rem.toNat ≤ 1 →
      t.cd = strobed .expired 0#13 false false false true false) ∧
    (s.cd.mode = .running → w[12] = false → t.cd = strobed .running s.cd.rem false false false false false) ∧
    (s.cd.mode = .expired → s.seq.finishing s.cfg = true ∨ w[14] = true →
      t.cd = strobed .idle 0#13 false false false false true) ∧
    (s.cd.mode = .expired → s.seq.finishing s.cfg = false → w[14] = false →
      t.cd = strobed .expired s.cd.rem false false false false false) ∧
    (s.cd.mode = .unused → t.cd = strobed .idle 0#13 false false false false false)

/-- R33: after any step at most one of the four exclusive strobes is 1, and a cue comes with an update. -/
def Obligations.EventStrobesAreExclusive : Prop :=
  ∀ s t : State, step s = .next t →
    ¬ (t.cd.evStart = true ∧ t.cd.evUpdate = true) ∧ ¬ (t.cd.evStart = true ∧ t.cd.evExpired = true) ∧
    ¬ (t.cd.evStart = true ∧ t.cd.evRearm = true) ∧ ¬ (t.cd.evUpdate = true ∧ t.cd.evExpired = true) ∧
    ¬ (t.cd.evUpdate = true ∧ t.cd.evRearm = true) ∧ ¬ (t.cd.evExpired = true ∧ t.cd.evRearm = true) ∧
    (t.cd.evCue = true → t.cd.evUpdate = true)

/-- R132, R28, R31, R32: the strobes mark the mode transitions, each exactly when it is taken. -/
def Obligations.StrobesMarkTransitions : Prop :=
  ∀ s t : State, step s = .next t →
    (t.cd.evExpired = true ↔ s.cd.mode ≠ .expired ∧ t.cd.mode = .expired) ∧
    (t.cd.evStart = true ↔ s.cd.mode ≠ .running ∧ t.cd.mode = .running) ∧
    (t.cd.evRearm = true → s.cd.mode = .expired ∧ t.cd.mode = .idle)

/-- R134: RUNNING is left by expiry or RST alone, and while RUNNING `rem` changes by the decrement alone. -/
def Obligations.NoCancelPauseOrReload : Prop :=
  ∀ (s t : State) (w : Word), w[31] = false → s.cd.mode = .running → step (s.present w) = .next t →
    (t.cd.mode = .expired ∧ w[12] = true ∧ s.cd.rem.toNat ≤ 1) ∨
    (t.cd.mode = .running ∧ w[12] = true ∧ t.cd.rem.toNat + 1 = s.cd.rem.toNat) ∨
    (t.cd.mode = .running ∧ w[12] = false ∧ t.cd.rem = s.cd.rem)

/-- R133: a countdown of N expires with its N-th TICK and not before, whatever else the words request. -/
def Obligations.ExpiresAfterExactlyNTicks : Prop :=
  ∀ (s : State) (ws : List Word), s.cfg.Valid → NoRst ws → s.cd.mode = .running → 1 ≤ s.cd.rem.toNat →
    (tickCount ws < s.cd.rem.toNat → ∃ t, Run ws s t ∧ t.cd.mode = .running ∧
      t.cd.rem.toNat = s.cd.rem.toNat - tickCount ws) ∧
    (∀ w : Word, w[31] = false → w[12] = true → tickCount ws + 1 = s.cd.rem.toNat →
      ∃ t, Run (ws ++ [w]) s t ∧ t.cd.mode = .expired ∧ t.cd.rem = 0#13 ∧ t.cd.evExpired = true)

/-- R142, R144, R145, R146, R147: the four writes of the sequencer that an event causes. That exec of BURST, STOP
and CUE performs them without their cause is the model's reading (DEDUCED, log entry 13). -/
def Obligations.ToneLoadsAndStop : Prop :=
  ∀ s : State,
    exec .burst s = .next { s with seq :=
      { ph := .on, kind := .burst, left := s.cfg.burstLen, rep := s.cfg.burstCount, bcnt := 0#16 } } ∧
    exec .stop s = .next { s with seq :=
      { ph := .off, kind := .none, left := 0#16, rep := 0#8, bcnt := 0#16 } } ∧
    exec .cue s = .next { s with seq :=
      { ph := .on, kind := .cue, left := s.cfg.cueLen, rep := 1#8, bcnt := 0#16 } } ∧
    (s.cd.mode = .idle → exec .click s = .next { s with seq :=
      { ph := .on, kind := .click, left := s.cfg.clickLen, rep := 1#8, bcnt := 0#16 } })

/-- R148, R149: ADVANCE, arm by arm of the listing. -/
def Obligations.AdvanceFollowsTheListing : Prop :=
  ∀ s : State, ∃ q, exec .advance s = .next { s with seq := q } ∧
    (s.seq.ph = .off ∨ s.seq.ph = .unused →
      q = { ph := .off, kind := .none, left := 0#16, rep := 0#8, bcnt := 0#16 }) ∧
    (s.seq.ph = .on ∨ s.seq.ph = .gap → s.seq.bcnt ≠ s.cfg.buzPeriod - 1#16 →
      q = { s.seq with bcnt := s.seq.bcnt + 1#16 }) ∧
    (s.seq.ph = .on ∨ s.seq.ph = .gap → s.seq.bcnt = s.cfg.buzPeriod - 1#16 → 1 < s.seq.left.toNat →
      q = { s.seq with left := s.seq.left - 1#16, bcnt := 0#16 }) ∧
    (s.seq.ph = .on → s.seq.bcnt = s.cfg.buzPeriod - 1#16 → s.seq.left.toNat ≤ 1 →
      s.seq.kind = .burst → 1 < s.seq.rep.toNat →
      q = { ph := .gap, kind := .burst, left := s.cfg.burstGap, rep := s.seq.rep - 1#8, bcnt := 0#16 }) ∧
    (s.seq.ph = .on → s.seq.bcnt = s.cfg.buzPeriod - 1#16 → s.seq.left.toNat ≤ 1 →
      s.seq.kind ≠ .burst ∨ s.seq.rep.toNat ≤ 1 →
      q = { ph := .off, kind := .none, left := 0#16, rep := 0#8, bcnt := 0#16 }) ∧
    (s.seq.ph = .gap → s.seq.bcnt = s.cfg.buzPeriod - 1#16 → s.seq.left.toNat ≤ 1 →
      q = { s.seq with ph := .on, left := s.cfg.burstLen, bcnt := 0#16 })

/-- R143: the sequencer after a cycle without RST, by the fixed priority, the causes read from the strobes of
the cycle and the registered mode. -/
def Obligations.SequencerPriority : Prop :=
  ∀ (s : State) (w : Word), s.cfg.Valid → w[31] = false → ∃ t b, step (s.present w) = .next t ∧
    exec .advance s = .next b ∧
    t.seq =
      (if t.cd.evExpired = true then
        { ph := .on, kind := .burst, left := s.cfg.burstLen, rep := s.cfg.burstCount, bcnt := 0#16 }
      else if t.cd.evRearm = true then { ph := .off, kind := .none, left := 0#16, rep := 0#8, bcnt := 0#16 }
      else if t.cd.evCue = true then
        { ph := .on, kind := .cue, left := s.cfg.cueLen, rep := 1#8, bcnt := 0#16 }
      else if w[15] = true ∧ s.cd.mode = .idle then
        { ph := .on, kind := .click, left := s.cfg.clickLen, rep := 1#8, bcnt := 0#16 }
      else b.seq)

/-- R152, R153, R154: SERVO writes the command, the shadow latch and the period counter; and so does every
cycle without RST, with the strobes of the cycle for `start_now` and `expired_now`. -/
def Obligations.ServoClocks : Prop :=
  (∀ (startNow expiredNow : Bool) (s : State),
    exec (.servo startNow expiredNow) s = .next { s with servo :=
      { cmd := if startNow = true then s.cfg.servoRunPw
          else if expiredNow = true then s.cfg.servoIdlePw else s.servo.cmd
        act := if s.servo.scnt = s.cfg.servoPeriod - 1#16 then s.servo.cmd else s.servo.act
        scnt := if s.servo.scnt = s.cfg.servoPeriod - 1#16 then 0#16 else s.servo.scnt + 1#16 } }) ∧
  (∀ (s : State) (w : Word), s.cfg.Valid → w[31] = false → ∃ t, step (s.present w) = .next t ∧
    t.servo.cmd = (if t.cd.evStart = true then s.cfg.servoRunPw
      else if t.cd.evExpired = true then s.cfg.servoIdlePw else s.servo.cmd) ∧
    (output t).servoPw = t.servo.cmd ∧
    t.servo.act = (if s.servo.scnt = s.cfg.servoPeriod - 1#16 then s.servo.cmd else s.servo.act) ∧
    t.servo.scnt = (if s.servo.scnt = s.cfg.servoPeriod - 1#16 then 0#16 else s.servo.scnt + 1#16))

/-- R150, R151, R155, R152: the PWM outputs as functions of the registered state. -/
def Obligations.PwmOutputsCompare : Prop :=
  ∀ s : State,
    (s.seq.ph ≠ .on → (output s).buzDuty = 0#16) ∧
    (s.seq.ph = .on → s.seq.kind = .none → (output s).buzDuty = 0#16) ∧
    (s.seq.ph = .on → s.seq.kind = .click → (output s).buzDuty = s.cfg.clickDuty) ∧
    (s.seq.ph = .on → s.seq.kind = .cue → (output s).buzDuty = s.cfg.cueDuty) ∧
    (s.seq.ph = .on → s.seq.kind = .burst → (output s).buzDuty = s.cfg.burstDuty) ∧
    ((output s).buzOut = true ↔ s.seq.bcnt.toNat < (output s).buzDuty.toNat) ∧
    ((output s).servoOut = true ↔ s.servo.scnt.toNat < s.servo.act.toNat) ∧
    (output s).servoPw = s.servo.cmd

/-- R57, R84: the status ports show the registers: the mode as its code, the count, and each event strobe on its
own port. -/
def Obligations.StatusPortsShowTheRegisters : Prop :=
  ∀ s : State,
    (s.cd.mode = .idle → (output s).mode = 0b00#2) ∧ (s.cd.mode = .running → (output s).mode = 0b01#2) ∧
    (s.cd.mode = .expired → (output s).mode = 0b10#2) ∧ (s.cd.mode = .unused → (output s).mode = 0b11#2) ∧
    (output s).rem = s.cd.rem ∧ (output s).evStart = s.cd.evStart ∧ (output s).evUpdate = s.cd.evUpdate ∧
    (output s).evCue = s.cd.evCue ∧ (output s).evExpired = s.cd.evExpired ∧ (output s).evRearm = s.cd.evRearm

/-- R123: an effective START with N ≥ 1 does all it does in the one step: mode, count, strobe, the running
width; the sequencer takes a CLICK of the same word, and otherwise goes on with what sounds. -/
def Obligations.StartIsOneStep : Prop :=
  ∀ (s : State) (w : Word), s.cfg.Valid → w[31] = false → s.cd.mode = .idle → w[13] = true →
    1 ≤ (w.extractLsb' 22 7).toNat * 60 + (w.extractLsb' 16 6).toNat →
    ∃ t b, step (s.present w) = .next t ∧ exec .advance s = .next b ∧ t.cd.mode = .running ∧
      t.cd.rem.toNat = (w.extractLsb' 22 7).toNat * 60 + (w.extractLsb' 16 6).toNat ∧
      t.cd.evStart = true ∧ t.cd.evUpdate = false ∧ t.cd.evCue = false ∧ t.cd.evExpired = false ∧
      t.cd.evRearm = false ∧ t.servo.cmd = s.cfg.servoRunPw ∧
      (w[15] = true →
        t.seq = { ph := .on, kind := .click, left := s.cfg.clickLen, rep := 1#8, bcnt := 0#16 }) ∧
      (w[15] = false → t.seq = b.seq)

/-- R201, R124, R126, R144, R152, R160: the transition to EXPIRED, by the last TICK or by a zero-duration
START, does all it does in the one step: mode, count, strobe, burst, idle width, and no running width. -/
def Obligations.ExpiryIsOneStep : Prop :=
  ∀ (s : State) (w : Word), s.cfg.Valid → w[31] = false →
    (s.cd.mode = .running ∧ w[12] = true ∧ s.cd.rem.toNat ≤ 1) ∨
      (s.cd.mode = .idle ∧ w[13] = true ∧ w.extractLsb' 22 7 = 0#7 ∧ w.extractLsb' 16 6 = 0#6) →
    ∃ t, step (s.present w) = .next t ∧ t.cd.mode = .expired ∧ t.cd.rem = 0#13 ∧ t.cd.evExpired = true ∧
      t.cd.evStart = false ∧ t.cd.evUpdate = false ∧ t.cd.evCue = false ∧ t.cd.evRearm = false ∧
      t.seq = { ph := .on, kind := .burst, left := s.cfg.burstLen, rep := s.cfg.burstCount, bcnt := 0#16 } ∧
      t.servo.cmd = s.cfg.servoIdlePw

/-- R202, R145, R127: the return to IDLE, by ACK or by the end of the burst, silences the buzzer from the next
cycle on, re-enables input and leaves the servo's command. -/
def Obligations.RearmSilencesInOneStep : Prop :=
  ∀ (s : State) (w : Word), s.cfg.Valid → w[31] = false → s.cd.mode = .expired →
    w[14] = true ∨ s.seq.finishing s.cfg = true →
    ∃ t, step (s.present w) = .next t ∧ t.cd.mode = .idle ∧ t.cd.rem = 0#13 ∧ t.cd.evRearm = true ∧
      t.seq = { ph := .off, kind := .none, left := 0#16, rep := 0#8, bcnt := 0#16 } ∧
      (output t).buzOut = false ∧ (output t).buzDuty = 0#16 ∧ (output t).inputEnable = true ∧ t.servo.cmd = s.servo.cmd

/-- R49, R157: from the first cycle of EXPIRED, with the burst just loaded and no ACK and no RST, the mode is
EXPIRED for exactly L cycles and IDLE, with `ev_rearm`, in the next, whatever else the words request. -/
def Obligations.ExpiredEndsWithTheBurst : Prop :=
  ∀ (s : State) (ws : List Word),
    s.cfg.Valid → s.cd.mode = .expired →
    s.seq = { ph := .on, kind := .burst, left := s.cfg.burstLen, rep := s.cfg.burstCount, bcnt := 0#16 } →
    (∀ w ∈ ws, w[31] = false ∧ w[14] = false) → ws.length = burstCycles s.cfg →
    (∀ j, j < ws.length → ∃ t, Run (ws.take j) s t ∧ t.cd.mode = .expired) ∧
    (∃ t, Run ws s t ∧ t.cd.mode = .idle ∧ t.cd.evRearm = true ∧ t.seq.ph = .off)

/-- R156: a click or a cue that nothing interrupts sounds at its compare value for its length in buzzer periods
and then stops, whatever else happens meanwhile: TICKs that do not cue, a START, absorbed strobes, in any mode. -/
def Obligations.ToneLengthIsExact : Prop :=
  ∀ (s : State) (kind : ToneKind) (len : BitVec 16) (ws : List Word),
    s.cfg.Valid →
    (kind = .click ∧ len = s.cfg.clickLen) ∨ (kind = .cue ∧ len = s.cfg.cueLen) →
    s.seq = { ph := .on, kind := kind, left := len, rep := 1#8, bcnt := 0#16 } →
    Uninterrupted ws s → ws.length = len.toNat * s.cfg.buzPeriod.toNat →
    (∀ j, j < ws.length → ∃ t, Run (ws.take j) s t ∧
      (output t).buzDuty = (if kind = .click then s.cfg.clickDuty else s.cfg.cueDuty)) ∧
    (∃ t, Run ws s t ∧ t.seq.ph = .off ∧ (output t).buzDuty = 0#16)

/-- R153, R154: the servo counter runs through its period whatever the words request, the active width stays
through the period, and the width latched at its end is the one commanded in its last cycle. -/
def Obligations.ServoPeriodIsExact : Prop :=
  ∀ (s : State) (ws : List Word),
    s.cfg.Valid → s.servo.scnt = 0#16 → NoRst ws → ws.length = s.cfg.servoPeriod.toNat →
    (∀ j, j < ws.length → ∃ t, Run (ws.take j) s t ∧ t.servo.scnt.toNat = j ∧ t.servo.act = s.servo.act) ∧
    (∃ t u, Run ws s t ∧ Run (ws.take (ws.length - 1)) s u ∧ t.servo.scnt = 0#16 ∧
      t.servo.act = u.servo.cmd)

/-- R45, R46, R47, R48: every step keeps the invariants of the reachable states, from any state that has
them. -/
def Obligations.EveryStepKeepsTheInvariants : Prop :=
  ∀ s t : State, s.Inv → step s = .next t → t.Inv

/-- R45 to R48 hold in the reset state of every instance within R8's constraints, the reference instance
among them. -/
def Obligations.ResetMeetsTheInvariants : Prop :=
  (∀ (c : Config) (ws : List Word) (n : Nat), c.Valid → (State.resetOf c ws n).Inv) ∧ State.reset.Inv

/-- R41: no step changes the parameters. -/
def Obligations.ParametersAreConstant : Prop :=
  ∀ s t : State, step s = .next t → t.cfg = s.cfg

/-- R72, R74, R77: the step ignores the reserved bits, the operands without START, and everything but RST
under RST. -/
def Obligations.StepIgnoresUnusedBits : Prop :=
  ∀ (s : State) (w : Word), step (s.present w) = step (s.present (canonicalWord w))

/-- R175, R176: the environment's Duration of a full buffer of value p < 10000 is normalised, fits the START
operands and loses no tick. -/
def Obligations.NormalisationKeepsTheTicks : Prop :=
  ∀ p : Nat, p < 10000 →
    durationSeconds p ≤ 59 ∧ durationMinutes p ≤ 100 ∧
    durationMinutes p = p / 100 + (p % 100) / 60 ∧
    (startTicks (BitVec.ofNat 7 (durationMinutes p)) (BitVec.ofNat 6 (durationSeconds p))).toNat =
      p / 100 * 60 + p % 100

/-- R179, R184: ENV presents START and CLICK only in cycles in which the block accepts input, and START only
with a CLICK. -/
def Obligations.EnvironmentStartsOnlyInIdle : Prop :=
  ∀ (s : State) (e : Env) (free : FreeInputs),
    (((e.react (output s) free).1.start = true → (e.react (output s) free).1.click = true) ∧
    ((e.react (output s) free).1.click = true → s.cd.mode = .idle ∧ (output s).inputEnable = true))

/-- R184, R175, R123, R124: in the closed loop the key event of the completing digit presents START and CLICK in
its own cycle and empties the buffer; the step leaves RUNNING with the entry's ticks, and EXPIRED exactly for
the zero duration. -/
def Obligations.CompletingDigitStartsTheCountdown : Prop :=
  ∀ (l : Loop) (free : FreeInputs) (k : KeyLine) (d : Fin 10),
    l.block.cfg.Valid → free.rst = false → l.block.cd.mode = .idle →
    l.block.lines[k].kev = true → (∀ j : KeyLine, j < k → l.block.lines[j].kev = false) →
    digitValue k = some d → l.env.buf.length + 1 = l.env.pinLen.toNat →
    (l.env.react (output l.block) free).1.start = true ∧ (l.env.react (output l.block) free).1.click = true ∧
    ∃ m, l.step free = .next m ∧ m.env = { l.env with buf := [] } ∧
      (decimal (l.env.buf ++ [d]) / 100 * 60 + decimal (l.env.buf ++ [d]) % 100 ≠ 0 →
        m.block.cd.mode = .running ∧ m.block.cd.evStart = true ∧
        m.block.cd.rem.toNat = decimal (l.env.buf ++ [d]) / 100 * 60 + decimal (l.env.buf ++ [d]) % 100) ∧
      (decimal (l.env.buf ++ [d]) / 100 * 60 + decimal (l.env.buf ++ [d]) % 100 = 0 →
        m.block.cd.mode = .expired ∧ m.block.cd.evExpired = true ∧ m.block.cd.rem = 0#13)

/-- R173, R184: ENV's buffer is below its capacity in every cycle, so the drop rule of R174 never has to drop. -/
def Obligations.EnvironmentBufferStaysBelowCapacity : Prop :=
  (∀ (e : Env) (o : Outputs) (free : FreeInputs), e.buf.length < e.pinLen.toNat →
    (e.react o free).2.buf.length < (e.react o free).2.pinLen.toNat ∧ (e.react o free).2.pinLen = e.pinLen) ∧
  (∀ n : PinLen, (Env.mk n []).buf.length < n.toNat)

/-- R171, R83: the scanner reports the pressed key with the lowest row, then the lowest column, and presents
at most one line. -/
def Obligations.ScannerReportsTheFirstKey : Prop :=
  ∀ pressed : KeyVec,
    (pressed = 0#12 → scannedRaw pressed = 0#12) ∧
    (∀ k : KeyLine, pressed.getLsbD k = true →
      (∀ j : KeyLine, pressed.getLsbD j = true →
        keyRow k < keyRow j ∨ (keyRow k = keyRow j ∧ keyColumn k ≤ keyColumn j)) →
      ∀ j : KeyLine, (scannedRaw pressed).getLsbD j = true ↔ j = k)
end

