-- ==== Sys2Proof/Laws/Decode.lean ====
section
/-! SUPPORT. What the decoder's set holds, bit by bit of the word (30_encoding.md R73 to R80). -/

namespace Sys2Proof

/-- A row matches when every bit of its mask reads as its pattern has it (R73). -/
theorem requested_iff (m p w : Word) :
    requested m p w = true ↔ ∀ k : Fin 32, (w.getLsbD k && m.getLsbD k) = p.getLsbD k := by
  rw [requested, beq_iff_eq]
  constructor
  · intro h k
    rw [← h, BitVec.getLsbD_and]
  · intro h
    apply BitVec.eq_of_getLsbD_eq
    intro i hi
    rw [BitVec.getLsbD_and]
    exact h ⟨i, hi⟩

/-- R74. -/
theorem requested_rst (w : Word) : requested 0x80000000 0x80000000 w = w[31] := by
  rw [Bool.eq_iff_iff, requested_iff]
  simp [Fin.forall_fin_succ]

/-- R75. -/
theorem requested_sample (w : Word) : requested 0x80000000 0x00000000 w = !w[31] := by
  rw [Bool.eq_iff_iff, requested_iff]
  simp [Fin.forall_fin_succ]

/-- R76. -/
theorem requested_tick (w : Word) : requested 0x80001000 0x00001000 w = (!w[31] && w[12]) := by
  rw [Bool.eq_iff_iff, requested_iff]
  simp [Fin.forall_fin_succ]
  tauto

/-- R77. -/
theorem requested_start (w : Word) : requested 0x80002000 0x00002000 w = (!w[31] && w[13]) := by
  rw [Bool.eq_iff_iff, requested_iff]
  simp [Fin.forall_fin_succ]
  tauto

/-- R78. -/
theorem requested_ack (w : Word) : requested 0x80004000 0x00004000 w = (!w[31] && w[14]) := by
  rw [Bool.eq_iff_iff, requested_iff]
  simp [Fin.forall_fin_succ]
  tauto

/-- R79. -/
theorem requested_click (w : Word) : requested 0x80008000 0x00008000 w = (!w[31] && w[15]) := by
  rw [Bool.eq_iff_iff, requested_iff]
  simp [Fin.forall_fin_succ]
  tauto

/-- R80. -/
theorem requested_nop (w : Word) : requested 0x8000F000 0x00000000 w =
    (!w[31] && !w[12] && !w[13] && !w[14] && !w[15]) := by
  rw [Bool.eq_iff_iff, requested_iff]
  simp [Fin.forall_fin_succ]
  tauto

/-- The strobes and NOP of a word without RST, in the table's order. -/
def strobesOf (w : Word) : List Instr :=
  (if w[12] then [.tick] else []) ++
  (if w[13] then [.start (minField w) (secField w)] else []) ++
  (if w[14] then [.ack] else []) ++
  (if w[15] then [.click] else []) ++
  (if !w[12] && !w[13] && !w[14] && !w[15] then [.nop] else [])

/-- A word with RST requests RST alone (R74). -/
theorem decodeWord_rst {w : Word} (h : w[31] = true) : decodeWord w = [.rst] := by
  simp only [decodeWord, rowOf, requested_rst, requested_sample, requested_tick, requested_start, requested_ack,
    requested_click, requested_nop, h]
  rfl

/-- A word without RST requests SAMPLE and its strobes (R82). -/
theorem decodeWord_run {w : Word} (h : w[31] = false) :
    decodeWord w = .sample (rawField w) :: strobesOf w := by
  simp only [decodeWord, rowOf, requested_rst, requested_sample, requested_tick, requested_start, requested_ack,
    requested_click, requested_nop, h, strobesOf]
  simp

/-- RST is in the set exactly under bit 31. -/
theorem rst_mem_decodeWord (w : Word) : Instr.rst ∈ decodeWord w ↔ w[31] = true := by
  cases h : w[31]
  · rw [decodeWord_run h]; simp [strobesOf]
  · rw [decodeWord_rst h]; simp

/-- TICK is in the set of a word without RST exactly under bit 12. -/
theorem tick_mem_decodeWord {w : Word} (h : w[31] = false) :
    Instr.tick ∈ decodeWord w ↔ w[12] = true := by
  rw [decodeWord_run h]
  cases h2 : w[12] <;> simp [strobesOf, h2]

/-- ACK is in the set of a word without RST exactly under bit 14. -/
theorem ack_mem_decodeWord {w : Word} (h : w[31] = false) :
    Instr.ack ∈ decodeWord w ↔ w[14] = true := by
  rw [decodeWord_run h]
  cases h2 : w[14] <;> simp [strobesOf, h2]

/-- CLICK is in the set of a word without RST exactly under bit 15. -/
theorem click_mem_decodeWord {w : Word} (h : w[31] = false) :
    Instr.click ∈ decodeWord w ↔ w[15] = true := by
  rw [decodeWord_run h]
  cases h2 : w[15] <;> simp [strobesOf, h2]

end Sys2Proof
end

