-- ==== Sys2Proof/Laws/State.lean ====
section
/-! SUPPORT. One lemma per field per update of State, true by rfl: no later proof unfolds a record update. -/

namespace Sys2Proof.Machine

@[simp] theorem State.withLines_lines (s : State) (ls : Vector DebounceLine 12) : (s.withLines ls).lines = ls := rfl
@[simp] theorem State.withLines_cd (s : State) (ls : Vector DebounceLine 12) : (s.withLines ls).cd = s.cd := rfl
@[simp] theorem State.withLines_seq (s : State) (ls : Vector DebounceLine 12) : (s.withLines ls).seq = s.seq := rfl
@[simp] theorem State.withLines_servo (s : State) (ls : Vector DebounceLine 12) : (s.withLines ls).servo = s.servo := rfl
@[simp] theorem State.withLines_cfg (s : State) (ls : Vector DebounceLine 12) : (s.withLines ls).cfg = s.cfg := rfl
@[simp] theorem State.withLines_script (s : State) (ls : Vector DebounceLine 12) : (s.withLines ls).script = s.script := rfl
@[simp] theorem State.withLines_drawn (s : State) (ls : Vector DebounceLine 12) : (s.withLines ls).drawn = s.drawn := rfl

@[simp] theorem State.withCd_lines (s : State) (c : Countdown) : (s.withCd c).lines = s.lines := rfl
@[simp] theorem State.withCd_cd (s : State) (c : Countdown) : (s.withCd c).cd = c := rfl
@[simp] theorem State.withCd_seq (s : State) (c : Countdown) : (s.withCd c).seq = s.seq := rfl
@[simp] theorem State.withCd_servo (s : State) (c : Countdown) : (s.withCd c).servo = s.servo := rfl
@[simp] theorem State.withCd_cfg (s : State) (c : Countdown) : (s.withCd c).cfg = s.cfg := rfl
@[simp] theorem State.withCd_script (s : State) (c : Countdown) : (s.withCd c).script = s.script := rfl
@[simp] theorem State.withCd_drawn (s : State) (c : Countdown) : (s.withCd c).drawn = s.drawn := rfl

@[simp] theorem State.withSeq_lines (s : State) (q : Sequencer) : (s.withSeq q).lines = s.lines := rfl
@[simp] theorem State.withSeq_cd (s : State) (q : Sequencer) : (s.withSeq q).cd = s.cd := rfl
@[simp] theorem State.withSeq_seq (s : State) (q : Sequencer) : (s.withSeq q).seq = q := rfl
@[simp] theorem State.withSeq_servo (s : State) (q : Sequencer) : (s.withSeq q).servo = s.servo := rfl
@[simp] theorem State.withSeq_cfg (s : State) (q : Sequencer) : (s.withSeq q).cfg = s.cfg := rfl
@[simp] theorem State.withSeq_script (s : State) (q : Sequencer) : (s.withSeq q).script = s.script := rfl
@[simp] theorem State.withSeq_drawn (s : State) (q : Sequencer) : (s.withSeq q).drawn = s.drawn := rfl

@[simp] theorem State.withServo_lines (s : State) (v : Servo) : (s.withServo v).lines = s.lines := rfl
@[simp] theorem State.withServo_cd (s : State) (v : Servo) : (s.withServo v).cd = s.cd := rfl
@[simp] theorem State.withServo_seq (s : State) (v : Servo) : (s.withServo v).seq = s.seq := rfl
@[simp] theorem State.withServo_servo (s : State) (v : Servo) : (s.withServo v).servo = v := rfl
@[simp] theorem State.withServo_cfg (s : State) (v : Servo) : (s.withServo v).cfg = s.cfg := rfl
@[simp] theorem State.withServo_script (s : State) (v : Servo) : (s.withServo v).script = s.script := rfl
@[simp] theorem State.withServo_drawn (s : State) (v : Servo) : (s.withServo v).drawn = s.drawn := rfl

@[simp] theorem State.resetOf_lines (c : Config) (ws : List Word) (n : Nat) :
    (State.resetOf c ws n).lines = Vector.replicate 12 DebounceLine.reset := rfl
@[simp] theorem State.resetOf_cd (c : Config) (ws : List Word) (n : Nat) :
    (State.resetOf c ws n).cd = Countdown.reset := rfl
@[simp] theorem State.resetOf_seq (c : Config) (ws : List Word) (n : Nat) :
    (State.resetOf c ws n).seq = Sequencer.reset := rfl
@[simp] theorem State.resetOf_servo (c : Config) (ws : List Word) (n : Nat) :
    (State.resetOf c ws n).servo = Servo.reset c := rfl
@[simp] theorem State.resetOf_cfg (c : Config) (ws : List Word) (n : Nat) :
    (State.resetOf c ws n).cfg = c := rfl
@[simp] theorem State.resetOf_script (c : Config) (ws : List Word) (n : Nat) :
    (State.resetOf c ws n).script = ws := rfl
@[simp] theorem State.resetOf_drawn (c : Config) (ws : List Word) (n : Nat) :
    (State.resetOf c ws n).drawn = n := rfl

@[simp] theorem State.toReset_lines (s : State) : s.toReset.lines = Vector.replicate 12 DebounceLine.reset := rfl
@[simp] theorem State.toReset_cd (s : State) : s.toReset.cd = Countdown.reset := rfl
@[simp] theorem State.toReset_seq (s : State) : s.toReset.seq = Sequencer.reset := rfl
@[simp] theorem State.toReset_servo (s : State) : s.toReset.servo = Servo.reset s.cfg := rfl
@[simp] theorem State.toReset_cfg (s : State) : s.toReset.cfg = s.cfg := rfl
@[simp] theorem State.toReset_script (s : State) : s.toReset.script = s.script := rfl
@[simp] theorem State.toReset_drawn (s : State) : s.toReset.drawn = s.drawn := rfl

@[simp] theorem State.present_lines (s : State) (w : Word) : (s.present w).lines = s.lines := rfl
@[simp] theorem State.present_cd (s : State) (w : Word) : (s.present w).cd = s.cd := rfl
@[simp] theorem State.present_seq (s : State) (w : Word) : (s.present w).seq = s.seq := rfl
@[simp] theorem State.present_servo (s : State) (w : Word) : (s.present w).servo = s.servo := rfl
@[simp] theorem State.present_cfg (s : State) (w : Word) : (s.present w).cfg = s.cfg := rfl
@[simp] theorem State.present_script (s : State) (w : Word) : (s.present w).script = w :: s.script := rfl
@[simp] theorem State.present_drawn (s : State) (w : Word) : (s.present w).drawn = s.drawn := rfl

@[simp] theorem State.merge_lines (s a b c d : State) : (s.merge a b c d).lines = a.lines := rfl
@[simp] theorem State.merge_cd (s a b c d : State) : (s.merge a b c d).cd = b.cd := rfl
@[simp] theorem State.merge_seq (s a b c d : State) : (s.merge a b c d).seq = c.seq := rfl
@[simp] theorem State.merge_servo (s a b c d : State) : (s.merge a b c d).servo = d.servo := rfl
@[simp] theorem State.merge_cfg (s a b c d : State) : (s.merge a b c d).cfg = s.cfg := rfl
@[simp] theorem State.merge_script (s a b c d : State) : (s.merge a b c d).script = s.script := rfl
@[simp] theorem State.merge_drawn (s a b c d : State) : (s.merge a b c d).drawn = s.drawn := rfl

/-- Two states with equal fields are equal. -/
theorem State.ext_fields {s t : State} (h1 : s.lines = t.lines) (h2 : s.cd = t.cd) (h3 : s.seq = t.seq)
    (h4 : s.servo = t.servo) (h5 : s.cfg = t.cfg) (h6 : s.script = t.script) (h7 : s.drawn = t.drawn) : s = t := by
  cases s; cases t; simp_all

end Sys2Proof.Machine
end

