-- ==== Sys2Proof/Laws/Ops.lean ====
section
/-! SUPPORT. The small lemmas of the shared operations: what each can do, said once. -/

namespace Sys2Proof.Machine

@[simp] theorem strobed_mode (m : Mode) (r : BitVec 13) (a b c d e : Bool) : (strobed m r a b c d e).mode = m := rfl
@[simp] theorem strobed_rem (m : Mode) (r : BitVec 13) (a b c d e : Bool) : (strobed m r a b c d e).rem = r := rfl
@[simp] theorem strobed_evStart (m : Mode) (r : BitVec 13) (a b c d e : Bool) : (strobed m r a b c d e).evStart = a := rfl
@[simp] theorem strobed_evUpdate (m : Mode) (r : BitVec 13) (a b c d e : Bool) : (strobed m r a b c d e).evUpdate = b := rfl
@[simp] theorem strobed_evCue (m : Mode) (r : BitVec 13) (a b c d e : Bool) : (strobed m r a b c d e).evCue = c := rfl
@[simp] theorem strobed_evExpired (m : Mode) (r : BitVec 13) (a b c d e : Bool) : (strobed m r a b c d e).evExpired = d := rfl
@[simp] theorem strobed_evRearm (m : Mode) (r : BitVec 13) (a b c d e : Bool) : (strobed m r a b c d e).evRearm = e := rfl

@[simp] theorem Countdown.begin_mode (n : BitVec 13) : (Countdown.begin n).mode = .running := rfl
@[simp] theorem Countdown.begin_rem (n : BitVec 13) : (Countdown.begin n).rem = n := rfl
@[simp] theorem Countdown.begin_evStart (n : BitVec 13) : (Countdown.begin n).evStart = true := rfl
@[simp] theorem Countdown.begin_evUpdate (n : BitVec 13) : (Countdown.begin n).evUpdate = false := rfl
@[simp] theorem Countdown.begin_evCue (n : BitVec 13) : (Countdown.begin n).evCue = false := rfl
@[simp] theorem Countdown.begin_evExpired (n : BitVec 13) : (Countdown.begin n).evExpired = false := rfl
@[simp] theorem Countdown.begin_evRearm (n : BitVec 13) : (Countdown.begin n).evRearm = false := rfl

@[simp] theorem Countdown.decrement_mode (cfg : Config) (c : Countdown) : (c.decrement cfg).mode = .running := rfl
@[simp] theorem Countdown.decrement_rem (cfg : Config) (c : Countdown) : (c.decrement cfg).rem = c.rem - 1#13 := rfl
@[simp] theorem Countdown.decrement_evStart (cfg : Config) (c : Countdown) : (c.decrement cfg).evStart = false := rfl
@[simp] theorem Countdown.decrement_evUpdate (cfg : Config) (c : Countdown) : (c.decrement cfg).evUpdate = true := rfl
@[simp] theorem Countdown.decrement_evCue (cfg : Config) (c : Countdown) : (c.decrement cfg).evCue = cueNow cfg (c.rem - 1#13) := rfl
@[simp] theorem Countdown.decrement_evExpired (cfg : Config) (c : Countdown) : (c.decrement cfg).evExpired = false := rfl
@[simp] theorem Countdown.decrement_evRearm (cfg : Config) (c : Countdown) : (c.decrement cfg).evRearm = false := rfl

@[simp] theorem Countdown.expire_mode : Countdown.expire.mode = .expired := rfl
@[simp] theorem Countdown.expire_rem : Countdown.expire.rem = 0#13 := rfl
@[simp] theorem Countdown.expire_evStart : Countdown.expire.evStart = false := rfl
@[simp] theorem Countdown.expire_evUpdate : Countdown.expire.evUpdate = false := rfl
@[simp] theorem Countdown.expire_evCue : Countdown.expire.evCue = false := rfl
@[simp] theorem Countdown.expire_evExpired : Countdown.expire.evExpired = true := rfl
@[simp] theorem Countdown.expire_evRearm : Countdown.expire.evRearm = false := rfl

@[simp] theorem Countdown.rearm_mode : Countdown.rearm.mode = .idle := rfl
@[simp] theorem Countdown.rearm_rem : Countdown.rearm.rem = 0#13 := rfl
@[simp] theorem Countdown.rearm_evStart : Countdown.rearm.evStart = false := rfl
@[simp] theorem Countdown.rearm_evUpdate : Countdown.rearm.evUpdate = false := rfl
@[simp] theorem Countdown.rearm_evCue : Countdown.rearm.evCue = false := rfl
@[simp] theorem Countdown.rearm_evExpired : Countdown.rearm.evExpired = false := rfl
@[simp] theorem Countdown.rearm_evRearm : Countdown.rearm.evRearm = true := rfl

@[simp] theorem Countdown.reset_mode : Countdown.reset.mode = .idle := rfl
@[simp] theorem Countdown.reset_rem : Countdown.reset.rem = 0#13 := rfl
@[simp] theorem Countdown.reset_evStart : Countdown.reset.evStart = false := rfl
@[simp] theorem Countdown.reset_evUpdate : Countdown.reset.evUpdate = false := rfl
@[simp] theorem Countdown.reset_evCue : Countdown.reset.evCue = false := rfl
@[simp] theorem Countdown.reset_evExpired : Countdown.reset.evExpired = false := rfl
@[simp] theorem Countdown.reset_evRearm : Countdown.reset.evRearm = false := rfl

@[simp] theorem Countdown.rest_evStart (c : Countdown) : c.rest.evStart = false := by
  unfold Countdown.rest; split <;> rfl
@[simp] theorem Countdown.rest_evUpdate (c : Countdown) : c.rest.evUpdate = false := by
  unfold Countdown.rest; split <;> rfl
@[simp] theorem Countdown.rest_evCue (c : Countdown) : c.rest.evCue = false := by
  unfold Countdown.rest; split <;> rfl
@[simp] theorem Countdown.rest_evExpired (c : Countdown) : c.rest.evExpired = false := by
  unfold Countdown.rest; split <;> rfl
@[simp] theorem Countdown.rest_evRearm (c : Countdown) : c.rest.evRearm = false := by
  unfold Countdown.rest; split <;> rfl

/-- A resting cycle keeps the mode; the unused code goes to IDLE (R121, R128). -/
theorem Countdown.rest_mode (c : Countdown) : c.rest.mode = if c.mode = .unused then .idle else c.mode := by
  unfold Countdown.rest; split <;> simp_all

/-- A resting cycle keeps the count; the unused code clears it (R121, R128). -/
theorem Countdown.rest_rem (c : Countdown) : c.rest.rem = if c.mode = .unused then 0#13 else c.rem := by
  unfold Countdown.rest; split <;> simp_all

@[simp] theorem Sequencer.load_ph (k : ToneKind) (l : BitVec 16) (r : BitVec 8) : (Sequencer.load k l r).ph = .on := rfl
@[simp] theorem Sequencer.load_kind (k : ToneKind) (l : BitVec 16) (r : BitVec 8) : (Sequencer.load k l r).kind = k := rfl
@[simp] theorem Sequencer.load_left (k : ToneKind) (l : BitVec 16) (r : BitVec 8) : (Sequencer.load k l r).left = l := rfl
@[simp] theorem Sequencer.load_rep (k : ToneKind) (l : BitVec 16) (r : BitVec 8) : (Sequencer.load k l r).rep = r := rfl
@[simp] theorem Sequencer.load_bcnt (k : ToneKind) (l : BitVec 16) (r : BitVec 8) : (Sequencer.load k l r).bcnt = 0#16 := rfl

@[simp] theorem Sequencer.silence_ph : Sequencer.silence.ph = .off := rfl
@[simp] theorem Sequencer.silence_kind : Sequencer.silence.kind = .none := rfl
@[simp] theorem Sequencer.silence_left : Sequencer.silence.left = 0#16 := rfl
@[simp] theorem Sequencer.silence_rep : Sequencer.silence.rep = 0#8 := rfl
@[simp] theorem Sequencer.silence_bcnt : Sequencer.silence.bcnt = 0#16 := rfl

@[simp] theorem Sequencer.reset_ph : Sequencer.reset.ph = .off := rfl
@[simp] theorem Sequencer.reset_kind : Sequencer.reset.kind = .none := rfl
@[simp] theorem Sequencer.reset_left : Sequencer.reset.left = 0#16 := rfl
@[simp] theorem Sequencer.reset_rep : Sequencer.reset.rep = 0#8 := rfl
@[simp] theorem Sequencer.reset_bcnt : Sequencer.reset.bcnt = 0#16 := rfl

@[simp] theorem Servo.clock_cmd (cfg : Config) (a b : Bool) (v : Servo) : (v.clock cfg a b).cmd = v.command cfg a b := rfl
@[simp] theorem Servo.clock_act (cfg : Config) (a b : Bool) (v : Servo) :
    (v.clock cfg a b).act = if v.wrap cfg then v.cmd else v.act := rfl
@[simp] theorem Servo.clock_scnt (cfg : Config) (a b : Bool) (v : Servo) :
    (v.clock cfg a b).scnt = if v.wrap cfg then 0#16 else v.scnt + 1#16 := rfl

/-- Outside the last cycle of a buzzer period a sounding or pausing sequencer only counts (R148). -/
theorem Sequencer.clock_counts {cfg : Config} {q : Sequencer} (hp : q.ph = .on ∨ q.ph = .gap)
    (hw : q.wrap cfg = false) : q.clock cfg = { q with bcnt := q.bcnt + 1#16 } := by
  rcases hp with hp | hp <;> simp [Sequencer.clock, hp, hw]

/-- In the last cycle of a buzzer period the period ends (R148). -/
theorem Sequencer.clock_ends {cfg : Config} {q : Sequencer} (hp : q.ph = .on ∨ q.ph = .gap)
    (hw : q.wrap cfg = true) : q.clock cfg = q.endPeriod cfg := by
  rcases hp with hp | hp <;> simp [Sequencer.clock, hp, hw]

/-- With no tone, or in the unused phase, ADVANCE silences (R148, R149). -/
theorem Sequencer.clock_off {cfg : Config} {q : Sequencer} (hp : q.ph = .off ∨ q.ph = .unused) :
    q.clock cfg = .silence := by
  rcases hp with hp | hp <;> simp [Sequencer.clock, hp]

@[simp] theorem DebounceLine.clock_sy1 (cfg : Config) (r : Bool) (l : DebounceLine) : (l.clock cfg r).sy1 = r := rfl
@[simp] theorem DebounceLine.clock_sy2 (cfg : Config) (r : Bool) (l : DebounceLine) : (l.clock cfg r).sy2 = l.sy1 := rfl
@[simp] theorem DebounceLine.clock_dph (cfg : Config) (r : Bool) (l : DebounceLine) :
    (l.clock cfg r).dph = (l.debounce cfg).dph := rfl
@[simp] theorem DebounceLine.clock_dcnt (cfg : Config) (r : Bool) (l : DebounceLine) :
    (l.clock cfg r).dcnt = (l.debounce cfg).dcnt := rfl
@[simp] theorem DebounceLine.clock_kev (cfg : Config) (r : Bool) (l : DebounceLine) :
    (l.clock cfg r).kev = (l.debounce cfg).kev := rfl

/-- SAMPLE acts on each line alone (R111). -/
@[simp] theorem sampleLines_getElem (cfg : Config) (raw : KeyVec) (ls : Vector DebounceLine 12) (i : Nat) (h : i < 12) :
    (sampleLines cfg raw ls)[i] = ls[i].clock cfg raw[i] := by
  simp [sampleLines]

/-- The same, by key line. -/
theorem sampleLines_line (cfg : Config) (raw : KeyVec) (ls : Vector DebounceLine 12) (k : KeyLine) :
    (sampleLines cfg raw ls)[k] = ls[k].clock cfg (raw.getLsbD k) := by
  simp [sampleLines]

/-- The vector of the confirmed-key strobes, bit by bit (R108). -/
@[simp] theorem kevVector_getElem (ls : Vector DebounceLine 12) (i : Nat) (h : i < 12) :
    (kevVector ls)[i] = ls[i].kev := by
  simp [kevVector]

/-- A line after reset (R211). -/
@[simp] theorem replicate_reset_getElem (i : Nat) (h : i < 12) :
    (Vector.replicate 12 DebounceLine.reset)[i] = DebounceLine.reset := by
  simp

@[simp] theorem andThen_next (s : State) (f : State → Result) : andThen (.next s) f = f s := rfl

/-- A state's script word is the word of the coming cycle (R70). -/
@[simp] theorem fetchWord_present (s : State) (w : Word) : fetchWord (s.present w) = (w, s) := rfl

end Sys2Proof.Machine
end

