-- ==== Sys2Proof/Laws/Exec.lean ====
section
/-! SUPPORT. Every meaning answers a next state, and what it leaves alone. -/

namespace Sys2Proof.Machine

/-- The state an operation leaves (R190: a step returns a state, never an error). -/
theorem exec_completes (i : Instr) (s : State) : ∃ t, exec i s = .next t := by
  cases i <;> simp only [exec, execRst, execSample, execTick, execStart, execAck, execClick, execNop, execDone,
    execBurst, execStop, execCue, execAdvance, execServo] <;> (try split) <;> (try split) <;> exact ⟨_, rfl⟩

/-- An operation changes neither the parameters nor the environment (R41). -/
theorem exec_environment {i : Instr} {s t : State} (h : exec i s = .next t) :
    t.cfg = s.cfg ∧ t.script = s.script ∧ t.drawn = s.drawn := by
  cases i <;> simp only [exec, execRst, execSample, execTick, execStart, execAck, execClick, execNop, execDone,
    execBurst, execStop, execCue, execAdvance, execServo] at h <;> (try split at h) <;> (try split at h) <;>
    (cases h; exact ⟨rfl, rfl, rfl⟩)

/-- A countdown operation writes unit CD only. -/
theorem exec_countdown_frame {i : Instr} {s t : State}
    (hi : i = .tick ∨ (∃ m c, i = .start m c) ∨ i = .ack ∨ i = .done) (h : exec i s = .next t) :
    t.lines = s.lines ∧ t.seq = s.seq ∧ t.servo = s.servo := by
  rcases hi with rfl | ⟨m, c, rfl⟩ | rfl | rfl <;>
    simp only [exec, execTick, execStart, execAck, execDone] at h <;> (try split at h) <;> (try split at h) <;>
    (cases h; exact ⟨rfl, rfl, rfl⟩)

/-- A sequencer operation writes the sequencer only. -/
theorem exec_sequencer_frame {i : Instr} {s t : State}
    (hi : i = .burst ∨ i = .stop ∨ i = .cue ∨ i = .click ∨ i = .advance) (h : exec i s = .next t) :
    t.lines = s.lines ∧ t.cd = s.cd ∧ t.servo = s.servo := by
  rcases hi with rfl | rfl | rfl | rfl | rfl <;>
    simp only [exec, execBurst, execStop, execCue, execClick, execAdvance] at h <;> (try split at h) <;>
    (cases h; exact ⟨rfl, rfl, rfl⟩)

end Sys2Proof.Machine
end

