-- ==== Sys2Proof/Laws/Cycle.lean ====
section
/-! SUPPORT. One clock cycle said once: what a step does to each unit, as a function of the registered state
and the word. The invariants and the runs are proved from here, without unfolding the cycle. -/

namespace Sys2Proof.Machine

/-- SAMPLE is found in every word without RST (R75). -/
theorem sampleOp_decodeWord {w : Word} (h : w[31] = false) :
    sampleOp (decodeWord w) = some (.sample (rawField w)) := by
  rw [decodeWord_run h]; rfl

/-- START is found exactly under bit 13 (R77). -/
theorem startOp_decodeWord {w : Word} (h : w[31] = false) :
    startOp (decodeWord w) = if w[13] then some (.start (minField w) (secField w)) else none := by
  rw [decodeWord_run h]
  simp only [startOp, strobesOf, List.find?_cons]
  cases w[12] <;> cases w[13] <;> cases w[14] <;> cases w[15] <;> rfl

/-- Unit CD after a cycle without RST: the rows of R121. -/
def nextCd (s : State) (w : Word) : Countdown :=
  match s.cd.mode with
  | .idle =>
    if w[13] then
      if startTicks (minField w) (secField w) = 0#13 then .expire else .begin (startTicks (minField w) (secField w))
    else s.cd.rest
  | .running =>
    if w[12] then
      if 1#13 < s.cd.rem then s.cd.decrement s.cfg else .expire
    else s.cd.rest
  | .expired => if s.seq.finishing s.cfg || w[14] then .rearm else s.cd.rest
  | .unused => s.cd.rest

/-- The sequencer after a cycle without RST (R143). -/
def nextSeq (s : State) (w : Word) : Sequencer :=
  if (nextCd s w).evExpired then .load .burst s.cfg.burstLen s.cfg.burstCount
  else if (nextCd s w).evRearm then .silence
  else if (nextCd s w).evCue then .load .cue s.cfg.cueLen 1#8
  else if w[15] = true ∧ s.cd.mode = .idle then .load .click s.cfg.clickLen 1#8
  else s.seq.clock s.cfg

/-- The whole state after a cycle without RST. -/
def nextState (s : State) (w : Word) : State where
  lines := sampleLines s.cfg (rawField w) s.lines
  cd := nextCd s w
  seq := nextSeq s w
  servo := s.servo.clock s.cfg (nextCd s w).evStart (nextCd s w).evExpired
  cfg := s.cfg
  script := s.script
  drawn := s.drawn

/-- Unit CD's operation of the cycle, run by exec on the registered state, leaves unit CD as the table says. -/
theorem runOr_countdown {w : Word} (h : w[31] = false) (s : State) :
    ∃ t, runOr (countdownOp (decodeWord w) s) (s.withCd s.cd.rest) s = .next t ∧ t.cd = nextCd s w := by
  unfold countdownOp nextCd
  cases hm : s.cd.mode with
  | idle =>
    simp only [startOp_decodeWord h]
    cases w[13]
    · exact ⟨_, rfl, rfl⟩
    · simp only [runOr, exec, execStart, hm]
      by_cases hz : startTicks (minField w) (secField w) = 0#13 <;> simp [hz]
  | running =>
    simp only [tick_mem_decodeWord h]
    cases w[12]
    · exact ⟨_, rfl, rfl⟩
    · simp only [runOr, exec, execTick, hm]
      by_cases hz : 1#13 < s.cd.rem <;> simp [hz]
  | expired =>
    simp only [ack_mem_decodeWord h]
    cases hf : s.seq.finishing s.cfg <;> cases w[14] <;> simp [runOr, exec, execDone, execAck, hm, hf]
  | unused => exact ⟨_, rfl, rfl⟩

/-- The sequencer operation of the cycle, run by exec on the registered state. -/
theorem exec_sequencerOp {w : Word} (h : w[31] = false) (s : State) :
    ∃ t, exec (sequencerOp (decodeWord w) s (nextCd s w)) s = .next t ∧ t.seq = nextSeq s w := by
  unfold sequencerOp nextSeq
  simp only [click_mem_decodeWord h]
  split
  · exact ⟨_, rfl, rfl⟩
  · split
    · exact ⟨_, rfl, rfl⟩
    · split
      · exact ⟨_, rfl, rfl⟩
      · split
        · rename_i hc
          simp [exec, execClick, hc.2]
        · exact ⟨_, rfl, rfl⟩

/-- The cycle of a word without RST (R54). -/
theorem clockOps_run {w : Word} (h : w[31] = false) (s : State) :
    clockOps (decodeWord w) s = .next (nextState s w) := by
  obtain ⟨b, hb, hbc⟩ := runOr_countdown h s
  obtain ⟨c, hc, hcs⟩ := exec_sequencerOp h s
  have hr : ¬ Instr.rst ∈ decodeWord w := by rw [rst_mem_decodeWord]; simp [h]
  have ha : runOr (some (.sample (rawField w))) s s = .next (s.withLines (sampleLines s.cfg (rawField w) s.lines)) := rfl
  have hd : exec (.servo (nextCd s w).evStart (nextCd s w).evExpired) s =
      .next (s.withServo (s.servo.clock s.cfg (nextCd s w).evStart (nextCd s w).evExpired)) := rfl
  unfold clockOps
  rw [if_neg hr, sampleOp_decodeWord h, ha, andThen_next, hb, andThen_next, hbc, hc, andThen_next, hd, andThen_next]
  congr 1
  apply State.ext_fields <;> simp [nextState, hbc, hcs]

/-- The cycle of a word with RST (R210). -/
theorem clockOps_rst {w : Word} (h : w[31] = true) (s : State) :
    clockOps (decodeWord w) s = .next s.toReset := by
  unfold clockOps
  rw [if_pos ((rst_mem_decodeWord w).mpr h)]
  rfl

/-- A step that is presented a word without RST. -/
theorem step_present_run {s : State} {w : Word} (hc : s.cfg.Valid) (h : w[31] = false) :
    step (s.present w) = .next (nextState s w) := by
  have hv : (s.present w).cfg.Valid := hc
  unfold step cycle
  rw [if_pos hv]
  exact clockOps_run h s

/-- A step that is presented a word with RST. -/
theorem step_present_rst {s : State} {w : Word} (hc : s.cfg.Valid) (h : w[31] = true) :
    step (s.present w) = .next s.toReset := by
  have hv : (s.present w).cfg.Valid := hc
  unfold step cycle
  rw [if_pos hv]
  exact clockOps_rst h s

/-- Every step is the cycle of some word on a state that differs in the environment's fields at most. -/
theorem step_cases {s t : State} (h : step s = .next t) :
    s.cfg.Valid ∧ ∃ w s0, s0.lines = s.lines ∧ s0.cd = s.cd ∧ s0.seq = s.seq ∧ s0.servo = s.servo ∧
      s0.cfg = s.cfg ∧
      ((w[31] = true ∧ t = s0.toReset) ∨ (w[31] = false ∧ t = nextState s0 w)) := by
  unfold step cycle at h
  split at h
  · rename_i hc
    refine ⟨hc, (fetchWord s).1, (fetchWord s).2, ?_⟩
    have hf : ∀ p : Word × State, p = fetchWord s → p.2.lines = s.lines ∧ p.2.cd = s.cd ∧ p.2.seq = s.seq ∧
        p.2.servo = s.servo ∧ p.2.cfg = s.cfg := by
      intro p hp
      subst hp
      unfold fetchWord
      split <;> exact ⟨rfl, rfl, rfl, rfl, rfl⟩
    obtain ⟨h1, h2, h3, h4, h5⟩ := hf _ rfl
    refine ⟨h1, h2, h3, h4, h5, ?_⟩
    cases hw : (fetchWord s).1.getLsbD 31
    · rw [clockOps_run hw] at h
      exact .inr ⟨hw, by cases h; rfl⟩
    · rw [clockOps_rst hw] at h
      exact .inl ⟨hw, by cases h; rfl⟩
  · cases h

/-- A step whose script holds a word is the step that is presented that word. -/
theorem step_cons {s : State} {w : Word} {rest : List Word} (h : s.script = w :: rest) :
    s = ({ s with script := rest } : State).present w := by
  cases s; simp_all [State.present]

end Sys2Proof.Machine
end

