-- ==== Sys2Proof/Laws/PerInstr.lean ====
section
/-! SUPPORT. The families of statements made per operation (LAWS.json). -/

namespace Sys2Proof.Laws

/-- R72, R74, R77: an operation's encoding sets no ignored bit: it is its own canonical word. -/
abbrev CanonicalEncoding.Statement (i : Instr) : Prop := ∀ w : Word, encode i = some w → canonicalWord w = w

theorem CanonicalEncoding.rst : CanonicalEncoding.Statement .rst := by
  intro w h; cases h; decide
theorem CanonicalEncoding.sample (raw : KeyVec) : CanonicalEncoding.Statement (.sample raw) := by
  intro w h
  cases h
  have h31 : (raw.setWidth 32)[31] = false := by simp
  have h13 : (raw.setWidth 32)[13] = false := by simp
  simp only [canonicalWord, h31, h13]
  apply BitVec.eq_of_toNat_eq
  simp only [Bool.false_eq_true, if_false, BitVec.toNat_and, BitVec.toNat_setWidth]
  have := raw.isLt
  rw [Nat.mod_eq_of_lt (by omega)]
  exact (Nat.and_two_pow_sub_one_eq_mod _ 16).trans (Nat.mod_eq_of_lt (by omega))
theorem CanonicalEncoding.tick : CanonicalEncoding.Statement .tick := by
  intro w h; cases h; decide
theorem CanonicalEncoding.start (min : BitVec 7) (sec : BitVec 6) : CanonicalEncoding.Statement (.start min sec) := by
  intro w h
  have hw : w = 0x00002000#32 ||| (min.setWidth 32 <<< 22) ||| (sec.setWidth 32 <<< 16) := by cases h; rfl
  have h31 : w[31] = false := by rw [hw]; simp
  have h13 : w[13] = true := by rw [hw]; simp
  have hi : ∀ i, 29 ≤ i → i < 32 → w.getLsbD i = false := by
    intro i h1 h2
    have hc : ∀ k : Fin 32, 29 ≤ k.val → (0x00002000#32).getLsbD k = false := by decide
    have hm : min.getLsbD (i - 22) = false := BitVec.getLsbD_of_ge _ _ (by omega)
    have hs : sec.getLsbD (i - 16) = false := BitVec.getLsbD_of_ge _ _ (by omega)
    have hc := hc ⟨i, h2⟩ h1
    simp only [hw, BitVec.getLsbD_or, BitVec.getLsbD_shiftLeft, BitVec.getLsbD_setWidth]
    simp [hc, hm, hs]
  clear hw h
  have hm : ∀ k : Fin 32, (0x1FFFFFFF#32).getLsbD k = decide (k.val < 29) := by decide
  simp only [canonicalWord, h31, h13]
  apply BitVec.eq_of_getLsbD_eq
  intro i hi32
  have hm := hm ⟨i, hi32⟩
  by_cases h : i < 29
  · simpa [h] using fun _ => hm
  · have := hi i (by omega) hi32
    simp [this]
theorem CanonicalEncoding.ack : CanonicalEncoding.Statement .ack := by
  intro w h; cases h; decide
theorem CanonicalEncoding.click : CanonicalEncoding.Statement .click := by
  intro w h; cases h; decide
theorem CanonicalEncoding.nop : CanonicalEncoding.Statement .nop := by
  intro w h; cases h; decide
theorem CanonicalEncoding.done : CanonicalEncoding.Statement .done := fun _ h => nomatch h
theorem CanonicalEncoding.burst : CanonicalEncoding.Statement .burst := fun _ h => nomatch h
theorem CanonicalEncoding.stop : CanonicalEncoding.Statement .stop := fun _ h => nomatch h
theorem CanonicalEncoding.cue : CanonicalEncoding.Statement .cue := fun _ h => nomatch h
theorem CanonicalEncoding.advance : CanonicalEncoding.Statement .advance := fun _ h => nomatch h
theorem CanonicalEncoding.servo (startNow expiredNow : Bool) :
    CanonicalEncoding.Statement (.servo startNow expiredNow) := fun _ h => nomatch h

end Sys2Proof.Laws
end

