-- ==== Sys2Proof/Laws/Runs.lean ====
section
/-! SUPPORT. Runs without RST as a fold of the cycle, and one line of unit DB through a cycle. -/

namespace Sys2Proof.Machine

/-- The state after the cycles of words without RST. -/
def runState (ws : List Word) (s : State) : State := ws.foldl nextState s

@[simp] theorem nextState_cfg (s : State) (w : Word) : (nextState s w).cfg = s.cfg := rfl

@[simp] theorem runState_cfg (ws : List Word) (s : State) : (runState ws s).cfg = s.cfg := by
  induction ws generalizing s with
  | nil => rfl
  | cons w ws ih => exact (ih _).trans rfl

/-- Words without RST run to the folded state. -/
theorem run_runState {ws : List Word} {s : State} (hc : s.cfg.Valid) (h : NoRst ws) :
    Run ws s (runState ws s) := by
  induction ws generalizing s with
  | nil => rfl
  | cons w ws ih =>
    exact ⟨_, step_present_run hc (h w (by simp)), ih (s := nextState s w) hc fun v hv => h v (by simp [hv])⟩

/-- A run has one end. -/
theorem run_unique {ws : List Word} {s t u : State} (h1 : Run ws s t) (h2 : Run ws s u) : t = u := by
  induction ws generalizing s with
  | nil => exact h1.trans h2.symm
  | cons w ws ih =>
    obtain ⟨m, a, b⟩ := h1
    obtain ⟨n, c, d⟩ := h2
    rw [a] at c
    cases c
    exact ih b d

theorem noRst_take {ws : List Word} (h : NoRst ws) (j : Nat) : NoRst (ws.take j) :=
  fun w hw => h w (List.mem_of_mem_take hw)

/-- One more cycle of a run. -/
theorem runState_take_succ (ws : List Word) (s : State) (j : Nat) (h : j < ws.length) :
    runState (ws.take (j + 1)) s = nextState (runState (ws.take j) s) ws[j] := by
  rw [List.take_add_one, List.getElem?_eq_getElem h]
  exact List.foldl_append

/-- One cycle of an uninterrupted run, and the rest from the state it leaves. -/
theorem uninterrupted_cons {s : State} {w : Word} {ws : List Word} (hc : s.cfg.Valid) (h31 : w[31] = false)
    (h15 : ¬ (w[15] = true ∧ s.cd.mode = .idle))
    (hev : (nextState s w).cd.evExpired = false ∧ (nextState s w).cd.evRearm = false ∧
      (nextState s w).cd.evCue = false)
    (h : Uninterrupted ws (nextState s w)) : Uninterrupted (w :: ws) s := by
  refine ⟨h31, h15, fun t ht => ?_⟩
  rw [step_present_run hc h31] at ht
  cases ht
  exact ⟨hev.1, hev.2.1, hev.2.2, h⟩

/-- What a run that interrupts no tone does to the sequencer: every cycle is ADVANCE (R143, R148). -/
theorem uninterrupted_clock {ws : List Word} {s : State} (hc : s.cfg.Valid) (h : Uninterrupted ws s) :
    NoRst ws ∧ ∀ j (hj : j < ws.length),
      (nextState (runState (ws.take j) s) ws[j]).seq = (runState (ws.take j) s).seq.clock s.cfg := by
  induction ws generalizing s with
  | nil => exact ⟨by simp [NoRst], by simp⟩
  | cons w ws ih =>
    obtain ⟨h31, h15, h⟩ := h
    obtain ⟨e1, e2, e3, h⟩ := h _ (step_present_run hc h31)
    obtain ⟨hr, hq⟩ := ih (s := nextState s w) hc h
    refine ⟨fun v hv => ?_, fun j hj => ?_⟩
    · rcases List.mem_cons.mp hv with rfl | hv
      · exact h31
      · exact hr v hv
    · cases j with
      | zero =>
        have e1 : (nextCd s w).evExpired = false := e1
        have e2 : (nextCd s w).evRearm = false := e2
        have e3 : (nextCd s w).evCue = false := e3
        simp [runState, nextState, nextSeq, e1, e2, e3, h15]
      | succ j => simpa [runState] using hq j (by simpa using hj)

/-- Line k after a cycle without RST. -/
theorem nextState_line (s : State) (w : Word) (k : KeyLine) :
    (nextState s w).lines[k] = s.lines[k].clock s.cfg (w.getLsbD k) := by
  simp only [nextState, sampleLines_line]
  congr 1
  simp [rawField]

end Sys2Proof.Machine
end

