-- ==== Sys2Proof/Tests/Slice0.lean ====
section
/-! SUPPORT. Tests. Expected values are those of 95_test_vectors.md (TESTCFG) or counted by hand from the
rules; then, for every statement with hypotheses, a witness that meets them. -/

namespace Sys2Proof.Tests

open Sys2Proof.Machine

/-- A state of the TESTCFG instance, by unit. -/
def at_ (c : Countdown) (q : Sequencer) : State :=
  ((State.resetOf .testcfg [] 0).withCd c).withSeq q

/-- Unit CD in a mode with a count, no strobe. -/
def cdIn (m : Mode) (r : BitVec 13) : Countdown := strobed m r false false false false false

/-- The TESTCFG instance in a mode, silent. -/
def inMode (m : Mode) (r : BitVec 13) : State := at_ (cdIn m r) .silence

/-- The TESTCFG instance with every key line the same. -/
def withLine (l : DebounceLine) : State :=
  (State.resetOf .testcfg [] 0).withLines (Vector.replicate 12 l)

/-- The last clock cycle of the last pulse of the burst (R141). -/
def lastBurstCycle : Sequencer := { ph := .on, kind := .burst, left := 1, rep := 1, bcnt := 3 }

/-- The next state's unit CD. -/
def cdOf : Result → Option Countdown
  | .next s => some s.cd
  | .fault _ => none
  | .refused _ => none

/-- The next state's sequencer. -/
def seqOf : Result → Option Sequencer
  | .next s => some s.seq
  | .fault _ => none
  | .refused _ => none

/-- The next state's servo part. -/
def servoOf : Result → Option Servo
  | .next s => some s.servo
  | .fault _ => none
  | .refused _ => none

/-- The next state's line 4. -/
def line4Of : Result → Option DebounceLine
  | .next s => some s.lines[(4 : KeyLine)]
  | .fault _ => none
  | .refused _ => none

/-! ### WellFormed refuses -/

theorem test_servo_both_signals_refused : Instr.wellFormed (.servo true true) = false := by decide
theorem test_rst_with_tick_refused : Instr.requestSet [.rst, .tick] = false := by decide
theorem test_sample_alone_refused : Instr.requestSet [.sample 0] = false := by decide
theorem test_no_sample_refused : Instr.requestSet [.tick] = false := by decide
theorem test_nop_with_strobe_refused : Instr.requestSet [.sample 0, .tick, .nop] = false := by decide
theorem test_strobes_out_of_order_refused : Instr.requestSet [.sample 0, .start 0 1, .tick] = false := by decide
theorem test_strobe_twice_refused : Instr.requestSet [.sample 0, .ack, .ack] = false := by decide
theorem test_internal_operation_refused : Instr.requestSet [.sample 0, .burst] = false := by decide
theorem test_line_with_two_starts_refused : lineWellFormed [.start 0 1, .start 0 2] = false := by decide
theorem test_line_with_rst_and_nop_accepted : lineWellFormed [.rst, .nop] = true := by decide
theorem test_line_with_nop_and_tick_refused : lineWellFormed [.nop, .tick] = false := by decide
theorem test_config_period_one_refused : ¬ ({ Config.testcfg with buzPeriod := 1 } : Config).Valid := by decide
theorem test_refcfg_valid : Config.refcfg.Valid := by decide

/-! ### Decoding: the words of vectors E1 to E21, bit by bit from R71 -/

theorem test_e1_nop : decodeWord 0b0_00_0000000_000000_0_0_0_0_000000000000#32 = [.sample 0, .nop] := by decide
theorem test_e3_two_keys : decodeWord 0b0_00_0000000_000000_0_0_0_0_010000010000#32 = [.sample 0x410, .nop] := by decide
theorem test_e5_tick_and_key : decodeWord 0b0_00_0000000_000000_0_0_0_1_000000010000#32 = [.sample 0x010, .tick] := by
  decide
theorem test_e7_start : decodeWord 0b0_00_0000001_011110_0_0_1_0_000000000000#32 = [.sample 0, .start 1 30] := by decide
theorem test_e8_start_click :
    decodeWord 0b0_00_0000001_011110_1_0_1_0_000000000000#32 = [.sample 0, .start 1 30, .click] := by decide
theorem test_e10_start_100_39 : decodeWord 0x19272000#32 = [.sample 0, .start 100 39] := by decide
theorem test_e11_start_largest : decodeWord 0x1FFF2000#32 = [.sample 0, .start 127 63] := by decide
theorem test_e15_ack : decodeWord 0b0_00_0000000_000000_0_1_0_0_000000000000#32 = [.sample 0, .ack] := by decide
theorem test_e16_tick_ack : decodeWord 0x00005000#32 = [.sample 0, .tick, .ack] := by decide
theorem test_e17_click : decodeWord 0b0_00_0000000_000000_1_0_0_0_000000000000#32 = [.sample 0, .click] := by decide
theorem test_e18_rst : decodeWord 0b1_00_0000000_000000_0_0_0_0_000000000000#32 = [.rst] := by decide
theorem test_e19_rst_dominates : decodeWord 0x80413010#32 = [.rst] := by decide
theorem test_e20_reserved_bits : decodeWord 0x60001000#32 = decodeWord 0x00001000#32 := by decide
theorem test_e21_operands_without_start : decodeWord 0x005E0000#32 = [.sample 0, .nop] := by decide
theorem test_encode_e9 : encodeSet [.sample 0, .start 10 39] = 0x02A72000#32 := by decide
theorem test_encode_e14 : encodeSet [.sample 0, .tick, .start 2 0] = 0x00803000#32 := by decide
theorem test_internal_operations_have_no_word :
    [Instr.done, .burst, .stop, .cue, .advance, .servo true false].all (fun i => (encode i).isNone) = true := by decide
theorem test_table_word_start : decodeTableWord 32 0x00002000 = some (.start 0 0) := by decide
theorem test_table_word_rst : decodeTableWord 32 0x80000000 = some .rst := by decide

/-! ### The script (R91, R92, E22) -/

theorem test_script_start_click :
    readLine ['S', 'T', 'A', 'R', 'T', ' ', '1', ':', '3', '0', ',', ' ', 'C', 'L', 'I', 'C', 'K', ' ', ';', '#'] =
      some [0x005EA000#32] := by decide
theorem test_script_press : readLine ['P', 'R', 'E', 'S', 'S', ' ', '4', ',', ' ', '2'] =
    some [0x00000010#32, 0x00000010#32] := by decide
theorem test_script_start_out_of_range :
    readLine ['S', 'T', 'A', 'R', 'T', ' ', '1', ':', '6', '4'] = none := by decide

/-! ### One operation on one state -/

/-- RS1, cycle 5. -/
theorem test_rst_mid_countdown : cdOf (step ((inMode .running 8).present 0x80413010)) = some .reset := by decide
theorem test_rst_servo_idle_width :
    servoOf (exec .rst (inMode .running 8)) = some { cmd := 2, act := 2, scnt := 0 } := by decide
/-- DB1, cycle 6: the confirming sample. -/
theorem test_sample_confirms :
    line4Of (exec (.sample 0x010) (withLine { sy1 := true, sy2 := true, dph := .settle, dcnt := 1, kev := false })) =
      some { sy1 := true, sy2 := true, dph := .held, dcnt := 0, kev := true } := by decide
/-- DB1, cycle 2: detection. -/
theorem test_sample_detects :
    line4Of (exec (.sample 0x000) (withLine { sy1 := false, sy2 := true, dph := .idle, dcnt := 0, kev := false })) =
      some { sy1 := false, sy2 := false, dph := .settle, dcnt := 4, kev := false } := by decide
/-- P2, cycle 4: 4 to 3 with a cue. -/
theorem test_tick_cues : cdOf (exec .tick (inMode .running 4)) =
    some { mode := .running, rem := 3, evStart := false, evUpdate := true, evCue := true, evExpired := false,
           evRearm := false } := by decide
/-- P2, cycle 13. -/
theorem test_tick_expires : cdOf (exec .tick (inMode .running 1)) =
    some { mode := .expired, rem := 0, evStart := false, evUpdate := false, evCue := false, evExpired := true,
           evRearm := false } := by decide
/-- E11 with R86. -/
theorem test_start_largest : cdOf (exec (.start 127 63) (inMode .idle 0)) =
    some { mode := .running, rem := 7683, evStart := true, evUpdate := false, evCue := false, evExpired := false,
           evRearm := false } := by decide
/-- CD2: START while RUNNING is absorbed. -/
theorem test_start_absorbed : cdOf (exec (.start 1 0) (inMode .running 5)) = some (cdIn .running 5) := by decide
theorem test_ack_rearms : cdOf (exec .ack (inMode .expired 0)) = some .rearm := by decide
theorem test_ack_absorbed : cdOf (exec .ack (inMode .running 5)) = some (cdIn .running 5) := by decide
theorem test_click_loads : seqOf (exec .click (inMode .idle 0)) =
    some { ph := .on, kind := .click, left := 1, rep := 1, bcnt := 0 } := by decide
theorem test_click_absorbed : seqOf (exec .click (inMode .expired 0)) = some .silence := by decide
theorem test_nop_changes_nothing : exec .nop (inMode .running 5) = .next (inMode .running 5) := rfl
/-- P2, cycle 33. -/
theorem test_done_rearms : cdOf (step ((at_ (cdIn .expired 0) lastBurstCycle).present 0)) = some .rearm := by decide
/-- P2, cycle 13. -/
theorem test_burst_loaded : seqOf (step ((inMode .running 1).present 0x00001000)) =
    some { ph := .on, kind := .burst, left := 2, rep := 2, bcnt := 0 } := by decide
/-- P2, cycle 33. -/
theorem test_stop_silences : seqOf (step ((at_ (cdIn .expired 0) lastBurstCycle).present 0)) = some .silence := by
  decide
/-- P2, cycle 4. -/
theorem test_cue_loaded : seqOf (step ((inMode .running 4).present 0x00001000)) =
    some { ph := .on, kind := .cue, left := 2, rep := 1, bcnt := 0 } := by decide
/-- P2, cycle 21: the pulse ends, the gap begins. -/
theorem test_advance_to_gap :
    seqOf (exec .advance (at_ (cdIn .expired 0) { ph := .on, kind := .burst, left := 1, rep := 2, bcnt := 3 })) =
      some { ph := .gap, kind := .burst, left := 1, rep := 1, bcnt := 0 } := by decide
/-- P2, cycle 25: the gap ends, the next pulse begins. -/
theorem test_advance_from_gap :
    seqOf (exec .advance (at_ (cdIn .expired 0) { ph := .gap, kind := .burst, left := 1, rep := 1, bcnt := 3 })) =
      some { ph := .on, kind := .burst, left := 2, rep := 1, bcnt := 0 } := by decide
/-- P2, cycle 9: the wrap latches the commanded width. -/
theorem test_servo_latches :
    servoOf (exec (.servo false false) ((inMode .running 2).withServo { cmd := 4, act := 2, scnt := 9 })) =
      some { cmd := 4, act := 4, scnt := 0 } := by decide
/-- P2, cycle 1. -/
theorem test_servo_commanded_by_start : servoOf (step ((inMode .idle 0).present 0x00042000)) =
    some { cmd := 4, act := 2, scnt := 1 } := by decide
theorem test_with_fetch_word :
    cdOf (step (State.reset.withFetchWord 32 0x00042000)) = some (.begin 4) := by decide

/-! ### The environment (EN1, EN3, EN4, EN12, C3) -/

/-- EN4. -/
theorem test_parse_9999 : durationMinutes 9999 = 100 ∧ durationSeconds 9999 = 39 := by decide
/-- EN3. -/
theorem test_parse_999 : durationMinutes 999 = 10 ∧ durationSeconds 999 = 39 := by decide
/-- EN1: the word of the completing digit of "0130". -/
theorem test_entry_word : (entryComplete ⟨false, false, false, 0⟩ (decimal [0, 1, 3, 0])).toWord = 0x005EA000#32 := by
  decide
/-- EN12: '*' is forwarded and does nothing. -/
theorem test_star_ignored :
    ((Env.mk .four [0]).react { output (inMode .idle 0) with fwdValid := true, fwdCode := 9 } ⟨false, false, false, 0⟩) =
      (freeOnly ⟨false, false, false, 0⟩, Env.mk .four [0]) := by decide

/-! ### Witnesses: the hypotheses of each statement met by concrete values -/

theorem witness_RequestSetsRoundTrip :
    Instr.requestSet [.sample 0xFFF, .tick, .start 127 63, .ack, .click] = true ∧ Instr.requestSet [.rst] = true ∧
    Instr.requestSet [.sample 0, .nop] = true := by decide

theorem witness_EncodedOperationIsDecoded :
    encode (.start 127 63) = some 0x1FFF2000#32 ∧ (∀ raw, Instr.start 127 63 ≠ .sample raw) ∧
    encode (.sample 0xFFF) = some 0x00000FFF#32 := by
  exact ⟨by decide, (fun _ h => nomatch h), by decide⟩

theorem witness_DecodedSetIsTheSelectedOperations :
    (0x8000F000#32)[31] = true ∧ (0x7FFFFFFF#32)[31] = false := by decide

theorem witness_StepRunsDecodedOperations :
    (inMode .idle 0).cfg.Valid ∧ (0x80413010#32)[31] = true ∧ (0x00001010#32)[31] = false := by decide

theorem witness_EnabledOperationReachesTheStep_tick : ∃ e t,
    (0x00001000#32)[31] = false ∧ Instr.tick ∈ decodeWord 0x00001000 ∧ exec .tick (inMode .running 2) = .next e ∧
    step ((inMode .running 2).present 0x00001000) = .next t ∧ (inMode .running 2).cd.mode = .running :=
  ⟨_, _, by decide, by decide, rfl, step_present_run (by decide) (by decide), rfl⟩

theorem witness_EnabledOperationReachesTheStep_start : ∃ e t,
    (0x00042000#32)[31] = false ∧ Instr.start 0 4 ∈ decodeWord 0x00042000 ∧
    exec (.start 0 4) (inMode .idle 0) = .next e ∧
    step ((inMode .idle 0).present 0x00042000) = .next t ∧ (inMode .idle 0).cd.mode = .idle :=
  ⟨_, _, by decide, by decide, rfl, step_present_run (by decide) (by decide), rfl⟩

theorem witness_EnabledOperationReachesTheStep_ack : ∃ e t,
    (0x00004000#32)[31] = false ∧ Instr.ack ∈ decodeWord 0x00004000 ∧ exec .ack (inMode .expired 0) = .next e ∧
    step ((inMode .expired 0).present 0x00004000) = .next t ∧ (inMode .expired 0).cd.mode = .expired :=
  ⟨_, _, by decide, by decide, rfl, step_present_run (by decide) (by decide), rfl⟩

theorem witness_EnabledOperationReachesTheStep_click : ∃ e t,
    (0x00008000#32)[31] = false ∧ Instr.click ∈ decodeWord 0x00008000 ∧ exec .click (inMode .idle 0) = .next e ∧
    step ((inMode .idle 0).present 0x00008000) = .next t ∧ (inMode .idle 0).cd.mode = .idle ∧
    (∀ m c, Instr.start m c ∉ decodeWord 0x00008000) := by
  refine ⟨_, _, by decide, by decide, rfl, step_present_run (by decide) (by decide), rfl, ?_⟩
  intro m c h
  rw [show decodeWord 0x00008000 = [.sample 0, .click] from by decide] at h
  simp at h

theorem witness_EnabledOperationReachesTheStep_sample : ∃ e t,
    (0x00000010#32)[31] = false ∧ Instr.sample 0x010 ∈ decodeWord 0x00000010 ∧
    exec (.sample 0x010) (inMode .idle 0) = .next e ∧ step ((inMode .idle 0).present 0x00000010) = .next t :=
  ⟨_, _, by decide, by decide, rfl, step_present_run (by decide) (by decide)⟩

theorem witness_StepAnswersExactlyOnValidParameters :
    (inMode .idle 0).cfg.Valid ∧ ¬ (State.resetOf { Config.testcfg with buzPeriod := 1 } [] 0).cfg.Valid := by decide

theorem witness_ResetWordResetsEveryField : (inMode .running 8).cfg.Valid ∧ (0x80413010#32)[31] = true := by decide

theorem witness_NopCycleStillRuns :
    (inMode .idle 0).cfg.Valid ∧ Quiet 0x7FFF0FFF#32 ∧ (inMode .idle 0).cd.mode = .idle ∧
    (inMode .running 7683).cd.mode = .running := by decide

/-- Each row of the debounce machine is some line's, the boundary counts 1 and 2 among them. -/
theorem witness_SampleDebouncesEveryLine :
    [(LinePhase.idle, false, 0), (.idle, true, 0), (.settle, true, 2), (.settle, true, 1), (.settle, false, 1),
     (.settle, true, 0), (.held, true, 0), (.held, false, 0), (.unused, false, 9)].all (fun p =>
      let l := (withLine { sy1 := false, sy2 := p.2.1, dph := p.1, dcnt := p.2.2, kev := false }).lines[(11 : KeyLine)]
      l.dph == p.1 && l.sy2 == p.2.1 && l.dcnt == p.2.2) = true := by decide

theorem witness_HeldPhaseKeepsTheCount :
    let l : DebounceLine := { sy1 := false, sy2 := false, dph := .held, dcnt := 0, kev := true }
    (withLine l).lines[(0 : KeyLine)].dph = .held ∧ (withLine l).lines[(0 : KeyLine)].Inv (withLine l).cfg :=
  ⟨by decide, ⟨by decide, by decide, by decide, by decide⟩⟩

theorem witness_SynchroniserDelaysTwoCycles :
    (inMode .idle 0).cfg.Valid ∧ (0x00000FFF#32)[31] = false ∧ (0x00000000#32)[31] = false := by decide

theorem witness_LinesAreIndependent : ∃ t1 t2,
    (0x00000010#32)[31] = false ∧ (0x0000F01F#32)[31] = false ∧
    (inMode .idle 0).cfg.tSettle = (inMode .running 5).cfg.tSettle ∧
    (inMode .idle 0).lines[(4 : KeyLine)] = (inMode .running 5).lines[(4 : KeyLine)] ∧
    (0x00000010#32).getLsbD (4 : KeyLine) = (0x0000F01F#32).getLsbD (4 : KeyLine) ∧
    step ((inMode .idle 0).present 0x00000010) = .next t1 ∧ step ((inMode .running 5).present 0x0000F01F) = .next t2 :=
  ⟨_, _, by decide, by decide, rfl, rfl, by decide, step_present_run (by decide) (by decide),
    step_present_run (by decide) (by decide)⟩

/-- The shortest press the statement admits: T_SETTLE + 1 = 5 cycles. -/
theorem witness_CleanPressGivesExactlyOneEvent :
    let s := inMode .idle 0
    let press := List.replicate 5 0x00000010#32
    let release := List.replicate 3 0x00000000#32
    let k : KeyLine := 4
    s.cfg.Valid ∧ s.lines[k].dph = .idle ∧ s.lines[k].sy1 = false ∧ s.lines[k].sy2 = false ∧ s.lines[k].kev = false ∧
    NoRst (press ++ release) ∧ s.cfg.tSettle.toNat < press.length ∧ release.length = 3 ∧
    (∀ w ∈ press, w.getLsbD k = true) ∧ (∀ w ∈ release, w.getLsbD k = false) := by
  intro s press release k
  refine ⟨by decide, by decide, by decide, by decide, by decide, ?_, by decide, by decide, ?_, ?_⟩ <;>
    simp [NoRst, press, release, k, or_imp, forall_and]

/-- DB2 from its cycle 2 on. -/
def glitch : State := withLine { sy1 := true, sy2 := true, dph := .idle, dcnt := 0, kev := false }

theorem witness_BounceAloneGivesNoEvent :
    glitch.cfg.Valid ∧ glitch.lines[(4 : KeyLine)].dph = .idle ∧ glitch.lines[(4 : KeyLine)].sy2 = true ∧
    NoRst (List.replicate 5 0x00000000#32) ∧ (List.replicate 5 0x00000000#32).length = glitch.cfg.tSettle.toNat + 1 ∧
    (∀ u, Run ((List.replicate 5 0x00000000#32).take glitch.cfg.tSettle.toNat) glitch u →
      u.lines[(4 : KeyLine)].sy2 = false) := by
  refine ⟨by decide, by decide, by decide, by simp [NoRst], by decide, fun u hu => ?_⟩
  rw [run_unique hu (run_runState (by decide) (noRst_take (by simp [NoRst]) _))]
  decide

theorem witness_EventsOfOneLineAreSpaced :
    let s := withLine { sy1 := false, sy2 := false, dph := .held, dcnt := 0, kev := true }
    let ws := List.replicate 5 0x00000010#32
    s.cfg.Valid ∧ s.lines[(4 : KeyLine)].dph = .held ∧ NoRst ws ∧ 1 ≤ ws.length ∧
    ws.length ≤ s.cfg.tSettle.toNat + 1 := by
  intro s ws
  exact ⟨by decide, by decide, by simp [ws, NoRst], by decide, by decide⟩

theorem witness_ForwardingGate :
    (output (withLine { sy1 := true, sy2 := true, dph := .held, dcnt := 0, kev := true })).fwdValid = true ∧
    (output (inMode .running 5)).fwdValid = false := by decide

theorem witness_StartBeginsACountdown :
    (inMode .idle 0).cd.mode = .idle ∧ 1 ≤ (0#7).toNat * 60 + (1#6).toNat ∧
    1 ≤ (127#7).toNat * 60 + (63#6).toNat := by decide

theorem witness_ZeroStartExpiresOnTheCall : (inMode .idle 0).cd.mode = .idle := by decide

theorem witness_TickDecrements :
    (inMode .running 2).cfg.Valid ∧ (inMode .running 2).cd.mode = .running ∧ 1 < (inMode .running 2).cd.rem.toNat := by
  decide

theorem witness_LastTickExpires :
    (inMode .running 1).cd.mode = .running ∧ (inMode .running 1).cd.rem.toNat ≤ 1 ∧
    (inMode .running 0).cd.rem.toNat ≤ 1 := by decide

theorem witness_AckAndDoneRearm :
    let s := at_ (cdIn .expired 0) lastBurstCycle
    s.cd.mode = .expired ∧ s.seq.ph = .on ∧ s.seq.kind = .burst ∧ s.seq.left.toNat ≤ 1 ∧ s.seq.rep.toNat ≤ 1 ∧
    s.seq.bcnt = s.cfg.buzPeriod - 1#16 := by decide

/-- A state in each mode, so that each clause has one. -/
theorem witness_AbsorbedOperationsChangeNothing :
    (inMode .running 5).cd.mode ≠ .idle ∧ (inMode .idle 0).cd.mode ≠ .running ∧
    (inMode .running 5).cd.mode ≠ .expired ∧ (inMode .expired 0).cd.mode ≠ .idle := by decide

theorem witness_AbsorbedStrobesLeaveNoTrace :
    (inMode .expired 0).cd.mode ≠ .idle ∧ (inMode .unused 0).cd.mode ≠ .running ∧
    (inMode .idle 0).cd.mode ≠ .expired ∧ (0x0000F000#32)[13] = true := by decide

theorem witness_CountdownTransitionTable :
    (inMode .idle 0).cfg.Valid ∧ (0x00012000#32)[31] = false ∧ (0x00012000#32)[13] = true ∧
    startTicks (minField 0x00012000) (secField 0x00012000) ≠ 0#13 ∧ (0x00002000#32)[13] = true ∧
    startTicks (minField 0x00002000) (secField 0x00002000) = 0#13 ∧ (0x00001000#32)[13] = false ∧
    (0x00001000#32)[12] = true ∧ 1 < (inMode .running 2).cd.rem.toNat ∧ (inMode .running 1).cd.rem.toNat ≤ 1 ∧
    (0x00004000#32)[12] = false ∧ (0x00004000#32)[14] = true ∧
    (at_ (cdIn .expired 0) lastBurstCycle).seq.finishing .testcfg = true ∧
    (inMode .expired 0).seq.finishing .testcfg = false ∧ (0x00000000#32)[14] = false ∧
    (inMode .unused 3).cd.mode = .unused := by decide

/-- A step that answers a next state: the hypothesis of EventStrobesAreExclusive, StrobesMarkTransitions and
ParametersAreConstant. -/
theorem witness_EventStrobesAreExclusive : ∃ t, step ((inMode .running 4).present 0x00001000) = .next t :=
  ⟨_, step_present_run (by decide) (by decide)⟩

theorem witness_StrobesMarkTransitions : ∃ t, step ((inMode .running 1).present 0x00001000) = .next t :=
  ⟨_, step_present_run (by decide) (by decide)⟩

theorem witness_ParametersAreConstant : ∃ t, step ((inMode .running 1).present 0x80000000) = .next t :=
  ⟨_, step_present_rst (by decide) (by decide)⟩

theorem witness_NoCancelPauseOrReload : ∃ t,
    (0x0000E000#32)[31] = false ∧ (inMode .running 5).cd.mode = .running ∧
    step ((inMode .running 5).present 0x0000E000) = .next t :=
  ⟨_, by decide, by decide, step_present_run (by decide) (by decide)⟩

/-- A countdown of 3: two TICKs among four words leave it running; a third expires it. -/
theorem witness_ExpiresAfterExactlyNTicks :
    let ws := [0x00001000#32, 0x00042000#32, 0x00000000#32, 0x0000D000#32]
    (inMode .running 3).cfg.Valid ∧ NoRst ws ∧ (inMode .running 3).cd.mode = .running ∧
    1 ≤ (inMode .running 3).cd.rem.toNat ∧ tickCount ws < (inMode .running 3).cd.rem.toNat ∧
    (0x00001000#32)[31] = false ∧ (0x00001000#32)[12] = true ∧
    tickCount ws + 1 = (inMode .running 3).cd.rem.toNat := by
  intro ws
  exact ⟨by decide, by simp [ws, NoRst], by decide, by decide, by decide, by decide, by decide, by decide⟩

theorem witness_ToneLoadsAndStop : (inMode .idle 0).cd.mode = .idle := by decide

/-- A sequencer for each arm of the listing, with its last period and its last pulse. -/
theorem witness_AdvanceFollowsTheListing :
    (Sequencer.mk .off .none 0 0 0).ph = .off ∧ (Sequencer.mk .unused .none 0 0 0).ph = .unused ∧
    (Sequencer.mk .on .cue 2 1 0).bcnt ≠ Config.testcfg.buzPeriod - 1#16 ∧
    (Sequencer.mk .gap .burst 1 1 2).bcnt ≠ Config.testcfg.buzPeriod - 1#16 ∧
    ((Sequencer.mk .on .cue 2 1 3).bcnt = Config.testcfg.buzPeriod - 1#16 ∧ 1 < (Sequencer.mk .on .cue 2 1 3).left.toNat) ∧
    ((Sequencer.mk .on .burst 1 2 3).left.toNat ≤ 1 ∧ 1 < (Sequencer.mk .on .burst 1 2 3).rep.toNat) ∧
    ((Sequencer.mk .on .click 1 1 3).kind ≠ .burst ∧ lastBurstCycle.rep.toNat ≤ 1) ∧
    ((Sequencer.mk .gap .burst 1 1 3).ph = .gap ∧ (Sequencer.mk .gap .burst 1 1 3).left.toNat ≤ 1) := by decide

/-- A state and a word for each cause. -/
theorem witness_SequencerPriority :
    (inMode .running 1).cfg.Valid ∧ (0x00001000#32)[31] = false ∧
    (nextCd (inMode .running 1) 0x00001000).evExpired = true ∧ (nextCd (inMode .expired 0) 0x00004000).evRearm = true ∧
    (nextCd (inMode .running 4) 0x00001000).evCue = true ∧
    (0x00008000#32)[15] = true ∧ (inMode .idle 0).cd.mode = .idle := by decide

theorem witness_ServoClocks : (inMode .idle 0).cfg.Valid ∧ (0x00042000#32)[31] = false := by decide

theorem witness_PwmOutputsCompare :
    (inMode .idle 0).seq.ph ≠ .on ∧ (Sequencer.mk .on .none 1 1 0).kind = .none ∧
    (Sequencer.mk .on .click 1 1 0).kind = .click ∧ (Sequencer.mk .on .cue 1 1 0).kind = .cue ∧
    lastBurstCycle.ph = .on ∧ lastBurstCycle.kind = .burst := by decide

/-- The shortest and the longest duration, without and with a CLICK. -/
theorem witness_StartIsOneStep :
    (inMode .idle 0).cfg.Valid ∧ (inMode .idle 0).cd.mode = .idle ∧
    (0x00012000#32)[31] = false ∧ (0x00012000#32)[13] = true ∧ (0x00012000#32)[15] = false ∧
    1 ≤ ((0x00012000#32).extractLsb' 22 7).toNat * 60 + ((0x00012000#32).extractLsb' 16 6).toNat ∧
    (0x1FFFA000#32)[31] = false ∧ (0x1FFFA000#32)[13] = true ∧ (0x1FFFA000#32)[15] = true ∧
    1 ≤ ((0x1FFFA000#32).extractLsb' 22 7).toNat * 60 + ((0x1FFFA000#32).extractLsb' 16 6).toNat := by
  refine ⟨by decide, by decide, by decide, by decide, by decide, by simp, by decide, by decide, by decide, by simp⟩

theorem witness_ExpiryIsOneStep :
    (inMode .running 1).cfg.Valid ∧ (0x00001000#32)[31] = false ∧
    ((inMode .running 1).cd.mode = .running ∧ (0x00001000#32)[12] = true ∧ (inMode .running 1).cd.rem.toNat ≤ 1) ∧
    (0x00002000#32)[31] = false ∧ ((inMode .idle 0).cd.mode = .idle ∧ (0x00002000#32)[13] = true ∧
      (0x00002000#32).extractLsb' 22 7 = 0#7 ∧ (0x00002000#32).extractLsb' 16 6 = 0#6) := by decide

theorem witness_RearmSilencesInOneStep :
    (inMode .expired 0).cfg.Valid ∧ (inMode .expired 0).cd.mode = .expired ∧ (0x00004000#32)[31] = false ∧
    (0x00004000#32)[14] = true ∧ (at_ (cdIn .expired 0) lastBurstCycle).cd.mode = .expired ∧
    (at_ (cdIn .expired 0) lastBurstCycle).seq.finishing Config.testcfg = true := by decide

/-- P2 from cycle 14 on: L = 20. -/
theorem witness_ExpiredEndsWithTheBurst :
    let s := at_ (cdIn .expired 0) (.load .burst 2 2)
    let ws := List.replicate 20 0x0000B010#32
    s.cfg.Valid ∧ s.cd.mode = .expired ∧
    s.seq = { ph := .on, kind := .burst, left := s.cfg.burstLen, rep := s.cfg.burstCount, bcnt := 0#16 } ∧
    (∀ w ∈ ws, w[31] = false ∧ w[14] = false) ∧ ws.length = burstCycles s.cfg := by
  intro s ws
  exact ⟨by decide, by decide, by decide, by simp [ws], by decide⟩

/-- A click, over a START in its first cycle and an absorbed CLICK, START and ACK in its third. -/
theorem witness_ToneLengthIsExact_click :
    let s := at_ (cdIn .idle 0) (.load .click 1 1)
    let ws := [0x00042000#32, 0x00000010#32, 0x0000E000#32, 0x00000000#32]
    s.cfg.Valid ∧ (1#16 : BitVec 16) = s.cfg.clickLen ∧
    s.seq = { ph := .on, kind := .click, left := 1#16, rep := 1#8, bcnt := 0#16 } ∧
    Uninterrupted ws s ∧ ws.length = (1#16).toNat * s.cfg.buzPeriod.toNat := by
  refine ⟨by decide, by decide, by decide, ?_, by decide⟩
  iterate 4 refine uninterrupted_cons (by decide) (by decide) (by decide) (by decide) ?_
  trivial

/-- The cue of P2, cycles 5 to 12, over TICKs that do not cue. -/
theorem witness_ToneLengthIsExact_cue :
    let s := at_ (cdIn .running 3) (.load .cue 2 1)
    let ws := [0#32, 0#32, 0x00001000#32, 0#32, 0#32, 0x00001000#32, 0#32, 0#32]
    s.cfg.Valid ∧ (2#16 : BitVec 16) = s.cfg.cueLen ∧
    s.seq = { ph := .on, kind := .cue, left := 2#16, rep := 1#8, bcnt := 0#16 } ∧
    Uninterrupted ws s ∧ ws.length = (2#16).toNat * s.cfg.buzPeriod.toNat := by
  refine ⟨by decide, by decide, by decide, ?_, by decide⟩
  iterate 8 refine uninterrupted_cons (by decide) (by decide) (by decide) (by decide) ?_
  trivial

theorem witness_ServoPeriodIsExact :
    let ws := List.replicate 10 0x00042000#32
    (inMode .idle 0).cfg.Valid ∧ (inMode .idle 0).servo.scnt = 0#16 ∧ NoRst ws ∧
    ws.length = (inMode .idle 0).cfg.servoPeriod.toNat := by
  intro ws
  exact ⟨by decide, by decide, by simp [ws, NoRst], by decide⟩

/-- P2 in cycle 14 meets every invariant, and its step answers. -/
theorem witness_EveryStepKeepsTheInvariants :
    (at_ (cdIn .expired 0) (.load .burst 2 2)).Inv ∧
    ∃ t, step ((at_ (cdIn .expired 0) (.load .burst 2 2)).present 0) = .next t := by
  refine ⟨⟨by decide, ?_, ?_, ?_, ?_⟩, _, step_present_run (by decide) (by decide)⟩
  · intro k
    have h : (at_ (cdIn .expired 0) (.load .burst 2 2)).lines[k] = DebounceLine.reset := by revert k; decide
    rw [h]
    constructor <;> decide
  · constructor <;> decide
  · constructor <;> decide
  · constructor <;> decide

theorem witness_ResetMeetsTheInvariants : Config.testcfg.Valid := by decide

theorem witness_NormalisationKeepsTheTicks : 9999 < 10000 := by decide

/-- ENV with three digits of four and key '0' forwarded presents START and CLICK. -/
theorem witness_EnvironmentStartsOnlyInIdle :
    let s := withLine { sy1 := true, sy2 := true, dph := .held, dcnt := 0, kev := true }
    ((Env.mk .four [0, 0, 0]).react (output s) ⟨false, false, false, 0⟩).1.start = true ∧
    ((Env.mk .four [0, 0, 0]).react (output s) ⟨false, false, false, 0⟩).1.click = true := by decide

/-- "0131" with four digits (not zero), and "000" with three (the zero duration, key '0' being line 10). -/
theorem witness_CompletingDigitStartsTheCountdown :
    let held : DebounceLine := { sy1 := true, sy2 := true, dph := .held, dcnt := 0, kev := true }
    let free : FreeInputs := ⟨false, false, false, 0⟩
    let l : Loop := ⟨withLine held, ⟨.four, [0, 1, 3]⟩⟩
    let z : Loop := ⟨(inMode .idle 0).withLines ((inMode .idle 0).lines.set 10 held), ⟨.three, [0, 0]⟩⟩
    (l.block.cfg.Valid ∧ free.rst = false ∧ l.block.cd.mode = .idle ∧ l.block.lines[(0 : KeyLine)].kev = true ∧
      (∀ j : KeyLine, j < 0 → l.block.lines[j].kev = false) ∧ digitValue 0 = some 1 ∧
      l.env.buf.length + 1 = l.env.pinLen.toNat ∧
      decimal (l.env.buf ++ [1]) / 100 * 60 + decimal (l.env.buf ++ [1]) % 100 ≠ 0) ∧
    (z.block.cfg.Valid ∧ z.block.cd.mode = .idle ∧ z.block.lines[(10 : KeyLine)].kev = true ∧
      (∀ j : KeyLine, j < 10 → z.block.lines[j].kev = false) ∧ digitValue 10 = some 0 ∧
      z.env.buf.length + 1 = z.env.pinLen.toNat ∧
      decimal (z.env.buf ++ [0]) / 100 * 60 + decimal (z.env.buf ++ [0]) % 100 = 0) := by decide

theorem witness_EnvironmentBufferStaysBelowCapacity :
    (Env.mk .three [9, 9]).buf.length < (Env.mk .three [9, 9]).pinLen.toNat ∧
    (Env.mk .four [9, 9, 9]).buf.length < (Env.mk .four [9, 9, 9]).pinLen.toNat := by decide

theorem witness_StatusPortsShowTheRegisters :
    (inMode .idle 0).cd.mode = .idle ∧ (inMode .running 5).cd.mode = .running ∧
    (inMode .expired 0).cd.mode = .expired ∧ (inMode .unused 0).cd.mode = .unused := by decide

theorem witness_ScannerReportsTheFirstKey :
    let k : KeyLine := 4
    (0x410#12).getLsbD k = true ∧
    (∀ j : KeyLine, (0x410#12).getLsbD j = true →
      keyRow k < keyRow j ∨ (keyRow k = keyRow j ∧ keyColumn k ≤ keyColumn j)) := by decide

end Sys2Proof.Tests
end

section
/-! The rules of one cycle that the statements of 10_state.md rest on: what the parameters bound, which row of
the transition table a cycle takes, and what it does to the sequencer, case by case. -/

namespace Sys2Proof

/-- The lower bounds of R8, on numbers. -/
structure Config.Bounds (c : Config) : Prop where
  tSettle : 1 ≤ c.tSettle.toNat
  buzPeriod : 2 ≤ c.buzPeriod.toNat
  clickLen : 1 ≤ c.clickLen.toNat
  cueLen : 1 ≤ c.cueLen.toNat
  burstLen : 1 ≤ c.burstLen.toNat
  burstGap : 1 ≤ c.burstGap.toNat
  burstCount : 1 ≤ c.burstCount.toNat
  servoPeriod : 2 ≤ c.servoPeriod.toNat

theorem Config.Valid.bounds {c : Config} (h : c.Valid) : c.Bounds := by
  obtain ⟨hsettle, -, hperiod, -, hclick, -, hcue, -, hlen, hgap, hcount, hservo, -, -⟩ := h
  exact ⟨hsettle, hperiod, hclick, hcue, hlen, hgap, hcount, hservo⟩

end Sys2Proof

namespace Sys2Proof.Machine

/-! ### Unit CD -/

/-- The row of R121 that unit CD takes in a cycle without RST, with the guard that selects it. -/
inductive CountdownRow (s : State) (w : Word) : Prop where
  | start (mode : s.cd.mode = .idle) (word : w[13] = true)
      (ticks : startTicks (minField w) (secField w) ≠ 0#13)
      (next : nextCd s w = .begin (startTicks (minField w) (secField w)))
  | startZero (mode : s.cd.mode = .idle) (word : w[13] = true)
      (ticks : startTicks (minField w) (secField w) = 0#13) (next : nextCd s w = .expire)
  | decrement (mode : s.cd.mode = .running) (word : w[12] = true) (more : 1#13 < s.cd.rem)
      (next : nextCd s w = s.cd.decrement s.cfg)
  | lastTick (mode : s.cd.mode = .running) (word : w[12] = true) (last : ¬ 1#13 < s.cd.rem)
      (next : nextCd s w = .expire)
  | rearm (mode : s.cd.mode = .expired) (cause : s.seq.finishing s.cfg = true ∨ w[14] = true)
      (next : nextCd s w = .rearm)
  | rest (idle : s.cd.mode = .idle → w[13] = false) (running : s.cd.mode = .running → w[12] = false)
      (expired : s.cd.mode = .expired → s.seq.finishing s.cfg = false ∧ w[14] = false)
      (next : nextCd s w = s.cd.rest)

theorem countdownRow (s : State) (w : Word) : CountdownRow s w := by
  cases hm : s.cd.mode with
  | idle =>
    by_cases hw : w[13] = true
    · by_cases hz : startTicks (minField w) (secField w) = 0#13
      · exact .startZero hm hw hz (by simp [nextCd, hm, hw, hz])
      · exact .start hm hw hz (by simp [nextCd, hm, hw, hz])
    · exact .rest (fun _ => by simpa using hw) (by simp [hm]) (by simp [hm]) (by simp [nextCd, hm, hw])
  | running =>
    by_cases hw : w[12] = true
    · by_cases hr : 1#13 < s.cd.rem
      · exact .decrement hm hw hr (by simp [nextCd, hm, hw, hr])
      · exact .lastTick hm hw hr (by simp [nextCd, hm, hw, hr])
    · exact .rest (by simp [hm]) (fun _ => by simpa using hw) (by simp [hm]) (by simp [nextCd, hm, hw])
  | expired =>
    by_cases hc : s.seq.finishing s.cfg = true ∨ w[14] = true
    · exact .rearm hm hc (by simp [nextCd, hm, hc])
    · exact .rest (by simp [hm]) (by simp [hm]) (fun _ => by simpa using hc) (by simp [nextCd, hm, hc])
  | unused => exact .rest (by simp [hm]) (by simp [hm]) (by simp [hm]) (by simp [nextCd, hm])

/-- In the last cycle of the burst EXPIRED re-arms (R127). -/
theorem nextCd_of_finishing {s : State} (w : Word) (hm : s.cd.mode = .expired)
    (hf : s.seq.finishing s.cfg = true) : nextCd s w = .rearm := by
  simp [nextCd, hm, hf]

/-- Before it, and without ACK, EXPIRED stays (R121). -/
theorem nextCd_of_playing {s : State} {w : Word} (hm : s.cd.mode = .expired)
    (hf : s.seq.finishing s.cfg = false) (hw : w[14] = false) : nextCd s w = s.cd.rest := by
  simp [nextCd, hm, hf, hw]

/-- A resting cycle keeps a mode that is in use (R121). -/
theorem Countdown.rest_mode_of_used {c : Countdown} (h : c.mode ≠ .unused) : c.rest.mode = c.mode := by
  rw [Countdown.rest_mode, if_neg h]

/-- A START's duration: 60·127 + 63 at most, so 13 bits hold it (R85). -/
theorem startTicks_toNat (m : BitVec 7) (c : BitVec 6) :
    (startTicks m c).toNat = m.toNat * 60 + c.toNat := by
  have hm := m.isLt
  have hc := c.isLt
  simp only [startTicks, BitVec.toNat_add, BitVec.toNat_mul, BitVec.toNat_setWidth, BitVec.toNat_ofNat]
  omega

theorem startTicks_le (m : BitVec 7) (c : BitVec 6) : (startTicks m c).toNat ≤ 7683 := by
  have hm := m.isLt
  have hc := c.isLt
  rw [startTicks_toNat]
  omega

/-! ### The sequencer -/

theorem nextSeq_of_expire {s : State} {w : Word} (h : nextCd s w = .expire) :
    nextSeq s w = .load .burst s.cfg.burstLen s.cfg.burstCount := by
  simp [nextSeq, h]

theorem nextSeq_of_rearm {s : State} {w : Word} (h : nextCd s w = .rearm) : nextSeq s w = .silence := by
  simp [nextSeq, h]

/-- A decrement leaves the sequencer to the cue or to ADVANCE: CLICK needs IDLE (R143). -/
theorem nextSeq_of_decrement {s : State} {w : Word} (hm : s.cd.mode = .running)
    (h : nextCd s w = s.cd.decrement s.cfg) :
    nextSeq s w = .load .cue s.cfg.cueLen 1#8 ∨ nextSeq s w = s.seq.clock s.cfg := by
  cases hc : cueNow s.cfg (s.cd.rem - 1#13)
  · exact .inr (by simp [nextSeq, h, hc, hm])
  · exact .inl (by simp [nextSeq, h, hc])

/-- With no event that writes the sequencer, a CLICK in IDLE loads the click and every other cycle is
ADVANCE (R143). -/
theorem nextSeq_of_quiet {s : State} {w : Word} (h : nextCd s w = s.cd.rest ∨ ∃ n, nextCd s w = .begin n) :
    (s.cd.mode = .idle ∧ nextSeq s w = .load .click s.cfg.clickLen 1#8) ∨ nextSeq s w = s.seq.clock s.cfg := by
  have hev : (nextCd s w).evExpired = false ∧ (nextCd s w).evRearm = false ∧ (nextCd s w).evCue = false := by
    rcases h with h | ⟨n, h⟩ <;> simp [h]
  obtain ⟨hexp, hrearm, hcue⟩ := hev
  by_cases hclick : w[15] = true ∧ s.cd.mode = .idle
  · exact .inl ⟨hclick.2, by simp [nextSeq, hexp, hrearm, hcue, hclick]⟩
  · exact .inr (by simp [nextSeq, hexp, hrearm, hcue, hclick])

/-- In a resting cycle of EXPIRED the sequencer advances (R143). -/
theorem nextSeq_of_expired_rest {s : State} {w : Word} (hm : s.cd.mode = .expired)
    (h : nextCd s w = s.cd.rest) : nextSeq s w = s.seq.clock s.cfg := by
  rcases nextSeq_of_quiet (.inl h) with ⟨hidle, -⟩ | hq
  · simp [hm] at hidle
  · exact hq

/-- The last cycle of a buzzer period, on numbers (R141). -/
theorem Sequencer.wrap_iff {cfg : Config} {q : Sequencer} (hb : cfg.Bounds) (hp : q.ph ≠ .off) :
    q.wrap cfg = true ↔ q.bcnt.toNat + 1 = cfg.buzPeriod.toNat := by
  have hperiod := hb.buzPeriod
  simp only [Sequencer.wrap, bne_iff_ne, ne_eq, hp, not_false_eq_true, Bool.and_eq_true, beq_iff_eq, true_and]
  bv_omega

/-- The last cycle of the burst, on numbers (R141). -/
theorem Sequencer.finishing_iff {cfg : Config} {q : Sequencer} :
    q.finishing cfg = true ↔
      q.wrap cfg = true ∧ q.kind = .burst ∧ q.ph = .on ∧ q.left.toNat ≤ 1 ∧ q.rep.toNat ≤ 1 := by
  simp [Sequencer.finishing, BitVec.le_def, and_assoc]

/-- What ADVANCE does to a sounding or pausing sequencer: the arms of R148's listing with their guards. -/
inductive Sequencer.ClockCase (cfg : Config) (q : Sequencer) : Prop where
  | count (inside : q.wrap cfg = false) (next : q.clock cfg = { q with bcnt := q.bcnt + 1#16 })
  | period (ends : q.wrap cfg = true) (more : 1 < q.left.toNat)
      (next : q.clock cfg = { q with left := q.left - 1#16, bcnt := 0#16 })
  | toGap (ends : q.wrap cfg = true) (last : q.left.toNat ≤ 1) (on : q.ph = .on) (burst : q.kind = .burst)
      (more : 1 < q.rep.toNat)
      (next : q.clock cfg = { q with ph := .gap, left := cfg.burstGap, rep := q.rep - 1#8, bcnt := 0#16 })
  | toOff (ends : q.wrap cfg = true) (last : q.left.toNat ≤ 1) (on : q.ph = .on)
      (done : q.kind = .burst → q.rep.toNat ≤ 1) (next : q.clock cfg = .silence)
  | toOn (ends : q.wrap cfg = true) (last : q.left.toNat ≤ 1) (gap : q.ph = .gap)
      (next : q.clock cfg = { q with ph := .on, left := cfg.burstLen, bcnt := 0#16 })

theorem Sequencer.clockCase {cfg : Config} {q : Sequencer} (hp : q.ph = .on ∨ q.ph = .gap) :
    q.ClockCase cfg := by
  cases hw : q.wrap cfg with
  | false => exact .count hw (Sequencer.clock_counts hp hw)
  | true =>
    have hclock := Sequencer.clock_ends hp hw
    by_cases hl : 1#16 < q.left
    · exact .period hw hl (by simp [hclock, Sequencer.endPeriod, hl])
    · have hlast : q.left.toNat ≤ 1 := by simpa [BitVec.lt_def] using hl
      rcases hp with hp | hp
      · by_cases hk : q.kind = .burst ∧ 1#8 < q.rep
        · exact .toGap hw hlast hp hk.1 hk.2 (by simp [hclock, Sequencer.endPeriod, Sequencer.endPulse, hl, hp, hk])
        · exact .toOff hw hlast hp (by simpa [BitVec.lt_def] using hk)
            (by simp [hclock, Sequencer.endPeriod, Sequencer.endPulse, hl, hp, hk])
      · exact .toOn hw hlast hp (by simp [hclock, Sequencer.endPeriod, hl, hp])

/-! ### Runs -/

@[simp] theorem nextState_cd (s : State) (w : Word) : (nextState s w).cd = nextCd s w := rfl
@[simp] theorem nextState_seq (s : State) (w : Word) : (nextState s w).seq = nextSeq s w := rfl

@[simp] theorem runState_nil (s : State) : runState [] s = s := rfl
@[simp] theorem runState_cons (w : Word) (ws : List Word) (s : State) :
    runState (w :: ws) s = runState ws (nextState s w) := rfl

end Sys2Proof.Machine
end

section
/-! The invariants of R45 to R48, unit by unit: the reset state has them, every cycle keeps them. -/

namespace Sys2Proof.Machine

/-! ### Unit CD (R45) -/

theorem Countdown.reset_inv : Countdown.reset.Inv := by
  constructor <;> simp

theorem Countdown.begin_inv {n : BitVec 13} (hpos : n ≠ 0#13) (hle : n.toNat ≤ 7683) :
    (Countdown.begin n).Inv := by
  have hrange : 1 ≤ n.toNat ∧ n.toNat ≤ 7683 := ⟨by bv_omega, hle⟩
  constructor <;> simp [hrange]

theorem Countdown.expire_inv : Countdown.expire.Inv := by
  constructor <;> simp

theorem Countdown.rearm_inv : Countdown.rearm.Inv := by
  constructor <;> simp

theorem Countdown.Inv.decrement {cfg : Config} {c : Countdown} (h : c.Inv) (hm : c.mode = .running)
    (hr : 1#13 < c.rem) : (c.decrement cfg).Inv := by
  have hrange := h.running_range hm
  have hrange' : 1 ≤ (c.rem - 1#13).toNat ∧ (c.rem - 1#13).toNat ≤ 7683 := by bv_omega
  constructor
  case running_range => exact fun _ => hrange'
  all_goals simp

theorem Countdown.Inv.rest {c : Countdown} (h : c.Inv) : c.rest.Inv := by
  have hmode := Countdown.rest_mode_of_used h.mode_used
  have hrem : c.rest.rem = c.rem := by rw [Countdown.rest_rem, if_neg h.mode_used]
  constructor
  case mode_used => exact hmode ▸ h.mode_used
  case running_range => rw [hmode, hrem]; exact h.running_range
  case rest_zero => rw [hmode, hrem]; exact h.rest_zero
  all_goals simp

theorem nextCd_inv {s : State} (h : s.cd.Inv) (w : Word) : (nextCd s w).Inv := by
  cases countdownRow s w with
  | start _ _ ticks next => exact next ▸ Countdown.begin_inv ticks (startTicks_le _ _)
  | startZero _ _ _ next => exact next ▸ Countdown.expire_inv
  | decrement mode _ more next => exact next ▸ h.decrement mode more
  | lastTick _ _ _ next => exact next ▸ Countdown.expire_inv
  | rearm _ _ next => exact next ▸ Countdown.rearm_inv
  | rest _ _ _ next => exact next ▸ h.rest

/-! ### One line of unit DB (R47) -/

theorem DebounceLine.reset_inv (cfg : Config) : DebounceLine.reset.Inv cfg := by
  constructor <;> simp [DebounceLine.reset]

/-- The invariant of a line whose settle counter is not running. -/
theorem DebounceLine.inv_of_not_settle {cfg : Config} {l : DebounceLine} (hp : l.dph = .idle ∨ l.dph = .held)
    (hz : l.dcnt = 0#16) (he : l.kev = true → l.dph = .held) : l.Inv cfg := by
  constructor
  case event_held => exact he
  all_goals rcases hp with hp | hp <;> simp [hp, hz]

/-- The invariant of a line whose settle counter is running. -/
theorem DebounceLine.inv_of_settle {cfg : Config} {l : DebounceLine} (hp : l.dph = .settle)
    (hrange : 1 ≤ l.dcnt.toNat ∧ l.dcnt.toNat ≤ cfg.tSettle.toNat) (he : l.kev = false) : l.Inv cfg := by
  constructor <;> simp [hp, hrange, he]

theorem DebounceLine.Inv.debounce {cfg : Config} {l : DebounceLine} (hb : cfg.Bounds) (h : l.Inv cfg) :
    (l.debounce cfg).Inv cfg := by
  cases hp : l.dph with
  | idle =>
    simp only [DebounceLine.debounce, hp]
    split
    · exact inv_of_settle rfl ⟨hb.tSettle, le_rfl⟩ rfl
    · exact inv_of_not_settle (.inl rfl) (h.other_zero (by simp [hp])) (by simp)
  | settle =>
    have hrange := h.settle_range hp
    simp only [DebounceLine.debounce, hp]
    split
    · exact inv_of_settle rfl (by dsimp only; bv_omega) rfl
    · split
      · exact inv_of_not_settle (.inr rfl) rfl (by simp)
      · exact inv_of_not_settle (.inl rfl) rfl (by simp)
  | held =>
    have hzero := h.other_zero (by simp [hp])
    simp only [DebounceLine.debounce, hp]
    split
    · exact inv_of_not_settle (.inr rfl) hzero (by simp)
    · exact inv_of_not_settle (.inl rfl) hzero (by simp)
  | unused => exact absurd hp h.phase_used

/-- The synchroniser's bits are no part of the invariant. -/
theorem DebounceLine.Inv.clock {cfg : Config} {l : DebounceLine} (hb : cfg.Bounds) (h : l.Inv cfg) (raw : Bool) :
    (l.clock cfg raw).Inv cfg := by
  obtain ⟨hused, hrange, hzero, hevent⟩ := h.debounce hb
  exact ⟨hused, hrange, hzero, hevent⟩

/-! ### The sequencer (R48) -/

theorem Sequencer.silence_inv (cfg : Config) {m : Mode} (hm : m ≠ .expired) : Sequencer.silence.Inv cfg m := by
  constructor <;> simp [hm]

/-- What R48 lets sound in a mode. -/
def ToneKind.AllowedIn (k : ToneKind) : Mode → Prop
  | .idle => k = .none ∨ k = .click
  | .running => k ≠ .burst
  | .expired => k = .burst
  | .unused => True

theorem Sequencer.Inv.allowedIn {cfg : Config} {m : Mode} {q : Sequencer} (h : q.Inv cfg m) :
    q.kind.AllowedIn m := by
  cases m with
  | idle => exact h.idle_quiet rfl
  | running => exact h.running_no_burst rfl
  | expired => exact h.expired_burst rfl
  | unused => trivial

/-- The invariant of a sequencer that plays a tone: the clauses about SQ_OFF fall away. -/
theorem Sequencer.inv_of_playing {cfg : Config} {m : Mode} {q : Sequencer} (hm : q.kind.AllowedIn m)
    (hk : q.kind ≠ .none) (hp : q.ph = .on ∨ (q.ph = .gap ∧ q.kind = .burst))
    (hrange : 1 ≤ q.left.toNat ∧ 1 ≤ q.rep.toNat ∧ q.bcnt.toNat < cfg.buzPeriod.toNat)
    (hrep : q.kind = .click ∨ q.kind = .cue → q.rep = 1#8) : q.Inv cfg m := by
  constructor
  case single_pulse =>
    intro hs
    refine ⟨hp.resolve_right fun hg => ?_, hrep hs⟩
    simp [hg.2] at hs
  case tone_range => exact fun _ => hrange
  case expired_burst => rintro rfl; exact hm
  case idle_quiet => rintro rfl; exact hm
  case running_no_burst => rintro rfl; exact hm
  all_goals rcases hp with hp | ⟨hp, hb⟩ <;> simp [*]

/-- A tone just loaded (R142). -/
theorem Sequencer.load_inv {cfg : Config} {m : Mode} {k : ToneKind} {len : BitVec 16} {rep : BitVec 8}
    (hb : cfg.Bounds) (hm : k.AllowedIn m) (hk : k ≠ .none) (hlen : 1 ≤ len.toNat) (hrep : 1 ≤ rep.toNat)
    (hsingle : k = .click ∨ k = .cue → rep = 1#8) : (Sequencer.load k len rep).Inv cfg m :=
  inv_of_playing hm hk (.inl rfl) ⟨hlen, hrep, Nat.zero_lt_of_lt hb.buzPeriod⟩ hsingle

/-- A sequencer that is not off sounds or pauses, and has a tone. -/
theorem Sequencer.Inv.playing {cfg : Config} {m : Mode} {q : Sequencer} (h : q.Inv cfg m) (hoff : q.ph ≠ .off) :
    (q.ph = .on ∨ (q.ph = .gap ∧ q.kind = .burst)) ∧ q.kind ≠ .none := by
  refine ⟨?_, fun hk => hoff (h.off_none.mpr hk)⟩
  cases hp : q.ph with
  | off => exact absurd hp hoff
  | on => exact .inl rfl
  | gap => exact .inr ⟨rfl, h.gap_burst hp⟩
  | unused => exact absurd hp h.phase_used

/-- ADVANCE keeps the invariant in the registered mode. In the last cycle of a burst the mode leaves EXPIRED
with it (R127), so that cycle is none of EXPIRED here. -/
theorem Sequencer.Inv.clock {cfg : Config} {m : Mode} {q : Sequencer} (hb : cfg.Bounds) (h : q.Inv cfg m)
    (hm : m = .expired → q.finishing cfg = false) : (q.clock cfg).Inv cfg m := by
  have hperiod : 0 < cfg.buzPeriod.toNat := Nat.zero_lt_of_lt hb.buzPeriod
  by_cases hoff : q.ph = .off
  · have hexp : m ≠ .expired := by
      rintro rfl
      simpa [h.off_none.mp hoff] using h.expired_burst rfl
    exact Sequencer.clock_off (.inl hoff) ▸ silence_inv cfg hexp
  · obtain ⟨hp, hk⟩ := h.playing hoff
    obtain ⟨hleft, hrep, hcnt⟩ := h.tone_range hoff
    have hsingle := fun hs => (h.single_pulse hs).2
    cases Sequencer.clockCase (cfg := cfg) (hp.imp_right And.left) with
    | count inside next =>
      have hwrap := (Sequencer.wrap_iff hb hoff).not.mp (by simp [inside])
      exact next ▸ inv_of_playing h.allowedIn hk hp ⟨hleft, hrep, by dsimp only; bv_omega⟩ hsingle
    | period _ more next =>
      exact next ▸ inv_of_playing h.allowedIn hk hp ⟨by dsimp only; bv_omega, hrep, hperiod⟩ hsingle
    | toGap _ _ _ burst more next =>
      exact next ▸ inv_of_playing h.allowedIn hk (.inr ⟨rfl, burst⟩)
        ⟨hb.burstGap, by dsimp only; bv_omega, hperiod⟩ (by simp [burst])
    | toOff ends last on done next =>
      refine next ▸ silence_inv cfg fun hexp => ?_
      have hburst := h.expired_burst hexp
      have hfinishing := Sequencer.finishing_iff.mpr ⟨ends, hburst, on, last, done hburst⟩
      simp [hm hexp] at hfinishing
    | toOn _ _ _ next =>
      exact next ▸ inv_of_playing h.allowedIn hk (.inl rfl) ⟨hb.burstLen, hrep, hperiod⟩ hsingle

/-- START takes what sounds in IDLE along into RUNNING (R123). -/
theorem Sequencer.Inv.running_of_idle {cfg : Config} {q : Sequencer} (h : q.Inv cfg .idle) :
    q.Inv cfg .running := by
  have hquiet := h.idle_quiet rfl
  exact { h with
    expired_burst := by simp
    idle_quiet := by simp
    running_no_burst := fun _ => by rcases hquiet with hk | hk <;> simp [hk] }

theorem click_inv {cfg : Config} {m : Mode} (hb : cfg.Bounds) (hm : m = .idle ∨ m = .running) :
    (Sequencer.load .click cfg.clickLen 1#8).Inv cfg m :=
  Sequencer.load_inv hb (by rcases hm with rfl | rfl <;> simp [ToneKind.AllowedIn]) (by simp) hb.clickLen
    (by simp) (by simp)

theorem cue_inv {cfg : Config} (hb : cfg.Bounds) : (Sequencer.load .cue cfg.cueLen 1#8).Inv cfg .running :=
  Sequencer.load_inv hb (by simp [ToneKind.AllowedIn]) (by simp) hb.cueLen (by simp) (by simp)

theorem burst_inv {cfg : Config} (hb : cfg.Bounds) :
    (Sequencer.load .burst cfg.burstLen cfg.burstCount).Inv cfg .expired :=
  Sequencer.load_inv hb rfl (by simp) hb.burstLen hb.burstCount (by simp)

/-- The sequencer and the mode it depends on move together (R48, R143). -/
theorem nextSeq_inv {s : State} (hb : s.cfg.Bounds) (hm : s.cd.mode ≠ .unused)
    (h : s.seq.Inv s.cfg s.cd.mode) (w : Word) : (nextSeq s w).Inv s.cfg (nextCd s w).mode := by
  cases countdownRow s w with
  | start mode _ _ next =>
    rw [next, Countdown.begin_mode]
    rw [mode] at h
    rcases nextSeq_of_quiet (.inr ⟨_, next⟩) with ⟨-, hq⟩ | hq
    · exact hq ▸ click_inv hb (.inr rfl)
    · exact hq ▸ h.running_of_idle.clock hb (by simp)
  | startZero _ _ _ next => exact nextSeq_of_expire next ▸ next ▸ burst_inv hb
  | lastTick _ _ _ next => exact nextSeq_of_expire next ▸ next ▸ burst_inv hb
  | decrement mode _ _ next =>
    rw [next, Countdown.decrement_mode]
    rw [mode] at h
    rcases nextSeq_of_decrement mode next with hq | hq
    · exact hq ▸ cue_inv hb
    · exact hq ▸ h.clock hb (by simp)
  | rearm _ _ next => exact nextSeq_of_rearm next ▸ next ▸ Sequencer.silence_inv _ (by simp)
  | rest _ _ playing next =>
    rw [next, Countdown.rest_mode_of_used hm]
    rcases nextSeq_of_quiet (.inl next) with ⟨mode, hq⟩ | hq
    · exact hq ▸ click_inv hb (.inl mode)
    · exact hq ▸ h.clock hb fun hexp => (playing hexp).1

/-! ### The servo part (R48) -/

theorem Servo.reset_inv {cfg : Config} (hb : cfg.Bounds) : (Servo.reset cfg).Inv cfg :=
  ⟨Nat.zero_lt_of_lt hb.servoPeriod, .inr rfl, .inr rfl⟩

/-- The last cycle of a servo period, on numbers (R153). -/
theorem Servo.wrap_iff {cfg : Config} {v : Servo} (hb : cfg.Bounds) :
    v.wrap cfg = true ↔ v.scnt.toNat + 1 = cfg.servoPeriod.toNat := by
  have hperiod := hb.servoPeriod
  simp only [Servo.wrap, beq_iff_eq]
  bv_omega

/-- The commanded width is one of the two the parameters give (R152). -/
theorem Servo.Inv.command {cfg : Config} {v : Servo} (h : v.Inv cfg) (a b : Bool) :
    v.command cfg a b = cfg.servoRunPw ∨ v.command cfg a b = cfg.servoIdlePw := by
  unfold Servo.command
  split
  · exact .inl rfl
  · split
    · exact .inr rfl
    · exact h.cmd_width

theorem Servo.Inv.clock {cfg : Config} {v : Servo} (hb : cfg.Bounds) (h : v.Inv cfg) (a b : Bool) :
    (v.clock cfg a b).Inv cfg := by
  have hcount := h.count_range
  cases hw : v.wrap cfg with
  | true =>
    exact ⟨by simpa [hw] using Nat.zero_lt_of_lt hb.servoPeriod, h.command a b, by simpa [hw] using h.cmd_width⟩
  | false =>
    have hinside : v.scnt.toNat + 1 ≠ cfg.servoPeriod.toNat := (Servo.wrap_iff hb).not.mp (by simp [hw])
    have hnext : (v.scnt + 1#16).toNat < cfg.servoPeriod.toNat := by bv_omega
    exact ⟨by simpa [hw] using hnext, h.command a b, by simpa [hw] using h.act_width⟩

/-! ### The whole state -/

theorem State.resetOf_inv {c : Config} (hc : c.Valid) (ws : List Word) (n : Nat) : (State.resetOf c ws n).Inv where
  config := hc
  lines k := by simpa using DebounceLine.reset_inv c
  countdown := Countdown.reset_inv
  sequencer := Sequencer.silence_inv c (by simp)
  servo := Servo.reset_inv hc.bounds

theorem nextState_inv {s : State} (h : s.Inv) (w : Word) : (nextState s w).Inv where
  config := h.config
  lines k := nextState_line s w k ▸ (h.lines k).clock h.config.bounds _
  countdown := nextCd_inv h.countdown w
  sequencer := nextSeq_inv h.config.bounds h.countdown.mode_used h.sequencer w
  servo := h.servo.clock h.config.bounds _ _

/-- The invariants do not speak of the environment's fields. -/
theorem State.Inv.of_units {s t : State} (h : s.Inv) (hlines : t.lines = s.lines) (hcd : t.cd = s.cd)
    (hseq : t.seq = s.seq) (hservo : t.servo = s.servo) (hcfg : t.cfg = s.cfg) : t.Inv where
  config := hcfg ▸ h.config
  lines k := by rw [hlines, hcfg]; exact h.lines k
  countdown := hcd ▸ h.countdown
  sequencer := by rw [hseq, hcfg, hcd]; exact h.sequencer
  servo := by rw [hservo, hcfg]; exact h.servo

/-- Settles O45: RST leaves the reset state, every other word a cycle that keeps each unit's invariant. -/
theorem everyStepKeepsTheInvariants : Obligations.EveryStepKeepsTheInvariants := by
  intro s t h hstep
  obtain ⟨-, w, s0, hlines, hcd, hseq, hservo, hcfg, ⟨-, rfl⟩ | ⟨-, rfl⟩⟩ := step_cases hstep
  · exact State.resetOf_inv (hcfg ▸ h.config) _ _
  · exact nextState_inv (h.of_units hlines hcd hseq hservo hcfg) w

/-- Settles O46: the reset state of each unit meets its invariant. -/
theorem resetMeetsTheInvariants : Obligations.ResetMeetsTheInvariants :=
  ⟨fun _ ws n hc => State.resetOf_inv hc ws n, State.resetOf_inv (by decide) _ _⟩

/-- Settles O47: neither RST nor a cycle without it writes the parameters. -/
theorem parametersAreConstant : Obligations.ParametersAreConstant := by
  intro s t hstep
  obtain ⟨-, w, s0, -, -, -, -, hcfg, ⟨-, rfl⟩ | ⟨-, rfl⟩⟩ := step_cases hstep
  · exact (State.toReset_cfg s0).trans hcfg
  · exact (nextState_cfg s0 w).trans hcfg

/-- Settles O30: each row of the transition table raises the strobes of one event at most. -/
theorem eventStrobesAreExclusive : Obligations.EventStrobesAreExclusive := by
  intro s t hstep
  obtain ⟨-, w, s0, -, -, -, -, -, ⟨-, rfl⟩ | ⟨-, rfl⟩⟩ := step_cases hstep
  · simp
  · rw [nextState_cd]
    cases countdownRow s0 w with
    | start _ _ _ next => simp [next]
    | startZero _ _ _ next => simp [next]
    | decrement _ _ _ next => simp [next]
    | lastTick _ _ _ next => simp [next]
    | rearm _ _ next => simp [next]
    | rest _ _ _ next => simp [next]

end Sys2Proof.Machine
end

section
/-! The length of an expiry burst (R49, R157): the clock cycles a burst still plays, counted down by ADVANCE. -/

namespace Sys2Proof.Machine

/-- The buzzer periods a burst still plays, the current one among them: those of its phase, the pulse that a gap
leads to, and a gap and a pulse for each repetition after it. -/
def Sequencer.periodsLeft (cfg : Config) (q : Sequencer) : Nat :=
  q.left.toNat + (if q.ph = .gap then cfg.burstLen.toNat else 0) +
    (q.rep.toNat - 1) * (cfg.burstLen.toNat + cfg.burstGap.toNat)

/-- The clock cycles a burst still plays, the current one among them. -/
def Sequencer.cyclesLeft (cfg : Config) (q : Sequencer) : Nat :=
  q.periodsLeft cfg * cfg.buzPeriod.toNat - q.bcnt.toNat

/-- A burst just loaded has all of L to play (R157). -/
theorem cyclesLeft_load_burst {cfg : Config} (hb : cfg.Bounds) :
    (Sequencer.load .burst cfg.burstLen cfg.burstCount).cyclesLeft cfg = burstCycles cfg := by
  obtain ⟨n, hn⟩ : ∃ n, cfg.burstCount.toNat = n + 1 := ⟨_, (Nat.sub_add_cancel hb.burstCount).symm⟩
  have hperiods : cfg.burstLen.toNat + n * (cfg.burstLen.toNat + cfg.burstGap.toNat) =
      (n + 1) * cfg.burstLen.toNat + n * cfg.burstGap.toNat := by ring
  simp [Sequencer.cyclesLeft, Sequencer.periodsLeft, burstCycles, hn, hperiods]

/-- The facts about a sequencer in EXPIRED that its invariant holds: a burst, in one of its phases. -/
theorem Sequencer.Inv.burst {cfg : Config} {q : Sequencer} (h : q.Inv cfg .expired) :
    q.kind = .burst ∧ q.ph ≠ .off ∧ (q.ph = .on ∨ q.ph = .gap) := by
  have hk := h.expired_burst rfl
  have hoff : q.ph ≠ .off := fun hp => by simpa [hk] using h.off_none.mp hp
  exact ⟨hk, hoff, (h.playing hoff).1.imp_right And.left⟩

theorem Sequencer.Inv.one_le_periodsLeft {cfg : Config} {q : Sequencer} (h : q.Inv cfg .expired) :
    1 ≤ q.periodsLeft cfg := by
  obtain ⟨-, hoff, -⟩ := h.burst
  obtain ⟨hleft, -, -⟩ := h.tone_range hoff
  unfold Sequencer.periodsLeft
  omega

theorem Sequencer.Inv.one_le_cyclesLeft {cfg : Config} {q : Sequencer} (h : q.Inv cfg .expired) :
    1 ≤ q.cyclesLeft cfg := by
  obtain ⟨-, hoff, -⟩ := h.burst
  obtain ⟨-, -, hcnt⟩ := h.tone_range hoff
  have hwhole := Nat.le_mul_of_pos_left cfg.buzPeriod.toNat h.one_le_periodsLeft
  unfold Sequencer.cyclesLeft
  omega

/-- The current period is the last exactly in the last period of the last pulse. -/
theorem Sequencer.Inv.periodsLeft_eq_one_iff {cfg : Config} {q : Sequencer} (hb : cfg.Bounds)
    (h : q.Inv cfg .expired) :
    q.periodsLeft cfg = 1 ↔ q.ph = .on ∧ q.left.toNat ≤ 1 ∧ q.rep.toNat ≤ 1 := by
  obtain ⟨-, hoff, hp⟩ := h.burst
  obtain ⟨hleft, hrep, -⟩ := h.tone_range hoff
  have hlen := hb.burstLen
  unfold Sequencer.periodsLeft
  rcases Nat.lt_or_ge 1 q.rep.toNat with hmore | hlast
  · have hmul : 1 ≤ (q.rep.toNat - 1) * (cfg.burstLen.toNat + cfg.burstGap.toNat) :=
      Nat.mul_pos (by omega) (by omega)
    omega
  · rw [Nat.sub_eq_zero_of_le hlast, Nat.zero_mul]
    rcases hp with hp | hp
    · simp only [hp, reduceCtorEq, if_false, true_and]
      omega
    · simp only [hp, reduceCtorEq, if_true, false_and, iff_false]
      omega

/-- `seq_done` marks the last cycle of the count (R141). -/
theorem Sequencer.Inv.finishing_iff_cyclesLeft {cfg : Config} {q : Sequencer} (hb : cfg.Bounds)
    (h : q.Inv cfg .expired) : q.finishing cfg = true ↔ q.cyclesLeft cfg = 1 := by
  obtain ⟨hk, hoff, -⟩ := h.burst
  obtain ⟨-, -, hcnt⟩ := h.tone_range hoff
  have hone := h.one_le_periodsLeft
  calc q.finishing cfg = true
      ↔ q.bcnt.toNat + 1 = cfg.buzPeriod.toNat ∧ q.periodsLeft cfg = 1 := by
        rw [Sequencer.finishing_iff, Sequencer.wrap_iff hb hoff, h.periodsLeft_eq_one_iff hb]
        simp [hk]
    _ ↔ q.cyclesLeft cfg = 1 := by
        unfold Sequencer.cyclesLeft
        constructor
        · rintro ⟨hlast, hperiods⟩
          rw [hperiods]
          omega
        · intro hcycles
          have hperiods : q.periodsLeft cfg = 1 := by
            refine le_antisymm (not_lt.mp fun htwo => ?_) hone
            have hlong := Nat.mul_le_mul_right cfg.buzPeriod.toNat htwo
            omega
          rw [hperiods] at hcycles
          exact ⟨by omega, hperiods⟩

/-- At the end of a buzzer period that is not the burst's last, one period fewer is left. -/
theorem Sequencer.Inv.periodsLeft_clock {cfg : Config} {q : Sequencer} (h : q.Inv cfg .expired)
    (hw : q.wrap cfg = true) (hf : q.finishing cfg = false) :
    (q.clock cfg).periodsLeft cfg + 1 = q.periodsLeft cfg ∧ (q.clock cfg).bcnt = 0#16 := by
  obtain ⟨hk, hoff, hp⟩ := h.burst
  obtain ⟨hleft, hrep, -⟩ := h.tone_range hoff
  cases Sequencer.clockCase (cfg := cfg) hp with
  | count inside _ => simp [hw] at inside
  | period _ more next =>
    have hnext : (q.left - 1#16).toNat + 1 = q.left.toNat := by bv_omega
    refine ⟨?_, by rw [next]⟩
    simp only [next, Sequencer.periodsLeft]
    omega
  | toGap _ last on _ more next =>
    obtain ⟨n, hn⟩ : ∃ n, q.rep.toNat = n + 2 := ⟨q.rep.toNat - 2, by omega⟩
    have hnext : (q.rep - 1#8).toNat = n + 1 := by bv_omega
    have hgaps : (n + 2 - 1) * (cfg.burstLen.toNat + cfg.burstGap.toNat) =
        n * (cfg.burstLen.toNat + cfg.burstGap.toNat) + (cfg.burstLen.toNat + cfg.burstGap.toNat) :=
      Nat.succ_mul n _
    refine ⟨?_, by rw [next]⟩
    simp only [next, Sequencer.periodsLeft, on, hn, hnext, reduceCtorEq, if_true, if_false, Nat.add_sub_cancel,
      hgaps]
    omega
  | toOff ends last on done _ =>
    have := Sequencer.finishing_iff.mpr ⟨ends, hk, on, last, done hk⟩
    simp [hf] at this
  | toOn _ last gap next =>
    refine ⟨?_, by rw [next]⟩
    simp only [next, Sequencer.periodsLeft, gap, reduceCtorEq, if_true, if_false]
    omega

/-- Every cycle of the burst but its last leaves one cycle fewer to play. -/
theorem Sequencer.Inv.cyclesLeft_clock {cfg : Config} {q : Sequencer} (hb : cfg.Bounds)
    (h : q.Inv cfg .expired) (hf : q.finishing cfg = false) :
    (q.clock cfg).cyclesLeft cfg + 1 = q.cyclesLeft cfg := by
  obtain ⟨-, hoff, hp⟩ := h.burst
  obtain ⟨-, -, hcnt⟩ := h.tone_range hoff
  have hwhole := Nat.le_mul_of_pos_left cfg.buzPeriod.toNat h.one_le_periodsLeft
  cases hw : q.wrap cfg with
  | false =>
    have hinside := (Sequencer.wrap_iff hb hoff).not.mp (by simp [hw])
    have hnext : (q.bcnt + 1#16).toNat = q.bcnt.toNat + 1 := by bv_omega
    have hclock := Sequencer.clock_counts hp hw
    have hperiods : (q.clock cfg).periodsLeft cfg = q.periodsLeft cfg := by rw [hclock]; rfl
    have hbcnt : (q.clock cfg).bcnt.toNat = q.bcnt.toNat + 1 := by rw [hclock]; exact hnext
    rw [Sequencer.cyclesLeft, Sequencer.cyclesLeft, hperiods, hbcnt]
    omega
  | true =>
    have hlast := (Sequencer.wrap_iff hb hoff).mp hw
    obtain ⟨hperiods, hbcnt⟩ := h.periodsLeft_clock hw hf
    rw [Sequencer.cyclesLeft, Sequencer.cyclesLeft, ← hperiods, hbcnt, Nat.add_mul, BitVec.toNat_zero]
    omega

/-! ### EXPIRED over the burst -/

/-- A state of EXPIRED in which the burst plays, with the cycles it still has to. -/
structure State.Bursting (s : State) (cycles : Nat) : Prop where
  config : s.cfg.Valid
  mode : s.cd.mode = .expired
  sequencer : s.seq.Inv s.cfg .expired
  cycles : s.seq.cyclesLeft s.cfg = cycles

/-- Words without RST and ACK. -/
abbrev NoRstNoAck (ws : List Word) : Prop := ∀ w ∈ ws, w[31] = false ∧ w[14] = false

theorem State.Bursting.finishing_iff {s : State} {n : Nat} (h : s.Bursting n) :
    s.seq.finishing s.cfg = true ↔ n = 1 := by
  rw [h.sequencer.finishing_iff_cyclesLeft h.config.bounds, h.cycles]

/-- A cycle without ACK that is not the burst's last plays one cycle of it. -/
theorem nextState_bursting {s : State} {n : Nat} (h : s.Bursting (n + 2)) {w : Word} (hw : w[14] = false) :
    (nextState s w).Bursting (n + 1) := by
  have hf : s.seq.finishing s.cfg = false := by simpa using h.finishing_iff.not.mpr (by omega)
  have hrest := nextCd_of_playing h.mode hf hw
  have hseq := nextSeq_of_expired_rest h.mode hrest
  refine ⟨h.config, ?_, ?_, ?_⟩
  · rw [nextState_cd, hrest, Countdown.rest_mode_of_used (by simp [h.mode]), h.mode]
  · rw [nextState_seq, hseq]
    exact h.sequencer.clock h.config.bounds fun _ => hf
  · have hcycles := h.sequencer.cyclesLeft_clock h.config.bounds hf
    have hnow := h.cycles
    rw [nextState_seq, hseq, nextState_cfg]
    omega

/-- The last cycle of the burst re-arms and silences, whatever the word (R127, R145). -/
theorem State.Bursting.last {s : State} (h : s.Bursting 1) (w : Word) :
    (nextState s w).cd = .rearm ∧ (nextState s w).seq = .silence := by
  have hcd := nextCd_of_finishing w h.mode (h.finishing_iff.mpr rfl)
  exact ⟨hcd, nextSeq_of_rearm hcd⟩

/-- Fewer cycles than are left: the burst still plays. -/
theorem runState_bursting {s : State} {ws : List Word} {n : Nat} (h : s.Bursting (ws.length + (n + 1)))
    (hws : NoRstNoAck ws) : (runState ws s).Bursting (n + 1) := by
  induction ws generalizing s with
  | nil => simpa using h
  | cons w ws ih =>
    have hlen : (w :: ws).length + (n + 1) = ws.length + n + 2 := by rw [List.length_cons]; omega
    exact ih (nextState_bursting (hlen ▸ h) (hws w (by simp)).2) fun v hv => hws v (by simp [hv])

/-- Settles O42: the count of the cycles left starts at L, falls by one in each cycle and is 1 in the last. -/
theorem expiredEndsWithTheBurst : Obligations.ExpiredEndsWithTheBurst := by
  intro s ws hc hm hseq hws hlen
  have hstart : s.Bursting ws.length := by
    have hload : s.seq = .load .burst s.cfg.burstLen s.cfg.burstCount := hseq
    refine ⟨hc, hm, hload ▸ burst_inv hc.bounds, ?_⟩
    rw [hload, cyclesLeft_load_burst hc.bounds, hlen]
  have hplaying : ∀ j n, j + (n + 1) = ws.length → (runState (ws.take j) s).Bursting (n + 1) := by
    intro j n hj
    refine runState_bursting ?_ fun w hw => hws w (List.mem_of_mem_take hw)
    rwa [List.length_take_of_le (by omega), hj]
  have hrst : NoRst ws := fun w hw => (hws w hw).1
  refine ⟨fun j hj => ⟨_, run_runState hc (noRst_take hrst j), ?_⟩, _, run_runState hc hrst, ?_⟩
  · exact (hplaying j (ws.length - j - 1) (by omega)).mode
  · have hpos : 0 < ws.length := by
      rw [← hstart.cycles]
      exact hstart.sequencer.one_le_cyclesLeft
    obtain ⟨hcd, hoff⟩ := (hplaying (ws.length - 1) 0 (by omega)).last ws[ws.length - 1]
    rw [← runState_take_succ _ _ _ (by omega), Nat.sub_add_cancel hpos, List.take_length] at hcd hoff
    simp [hcd, hoff]

end Sys2Proof.Machine
end

section
/-! The statements of 20_memory.md: the step as the four units' operations put together (R54), and the status
ports (R57). -/

namespace Sys2Proof.Machine

/-! ### The step as its operations (R54) -/

/-- RST leaves the reset state under the same parameters (R210). -/
theorem exec_rst (s : State) : exec .rst s = .next s.toReset := rfl

/-- SAMPLE clocks the twelve lines (R75). -/
theorem exec_sample (raw : KeyVec) (s : State) :
    exec (.sample raw) s = .next (s.withLines (sampleLines s.cfg raw s.lines)) := rfl

/-- SERVO clocks the servo part (R152 to R154). -/
theorem exec_servo (startNow expiredNow : Bool) (s : State) :
    exec (.servo startNow expiredNow) s = .next (s.withServo (s.servo.clock s.cfg startNow expiredNow)) := rfl

/-- Every word without RST requests SAMPLE with its `raw` field (R75). -/
theorem sample_mem_decodeWord {w : Word} (h : w[31] = false) :
    Instr.sample (rawField w) ∈ decodeWord w := by
  rw [decodeWord_run h]
  exact List.mem_cons_self

/-- The cycle's state is the four units' results put together, whatever else the four states hold (R158). -/
theorem nextState_eq_merge {s a b c d : State} {w : Word}
    (hlines : a.lines = sampleLines s.cfg (rawField w) s.lines) (hcd : b.cd = nextCd s w)
    (hseq : c.seq = nextSeq s w)
    (hservo : d.servo = s.servo.clock s.cfg (nextCd s w).evStart (nextCd s w).evExpired) :
    nextState s w = s.merge a b c d := by
  apply State.ext_fields <;> simp [nextState, hlines, hcd, hseq, hservo]

/-- Settles O7: each unit's operation run alone leaves that unit as the cycle does, and the cycle is the merge. -/
theorem stepRunsDecodedOperations : Obligations.StepRunsDecodedOperations := by
  intro s w hc
  constructor
  · intro hrst
    exact ⟨decodeWord_rst hrst, (step_present_rst hc hrst).trans (exec_rst s).symm⟩
  · intro hrun
    obtain ⟨b, hb, hcd⟩ := runOr_countdown hrun s
    obtain ⟨c, hexec, hseq⟩ := exec_sequencerOp hrun s
    refine ⟨_, b, c, _, sample_mem_decodeWord hrun, exec_sample _ s, hb, hcd ▸ hexec, exec_servo _ _ s, ?_⟩
    rw [step_present_run hc hrun]
    exact congrArg _ (nextState_eq_merge (State.withLines_lines ..) hcd hseq (by rw [hcd, State.withServo_servo]))

/-! ### The status ports (R57) -/

/-- The mode port is the code of the registered mode (R84). -/
theorem output_mode_of_mode {s : State} {m : Mode} (h : s.cd.mode = m) : (output s).mode = modeCode m :=
  congrArg modeCode h

/-- Settles O53: the mode port by the four codes of R84, the other ports as the registers they are. -/
theorem statusPortsShowTheRegisters : Obligations.StatusPortsShowTheRegisters := fun _ =>
  ⟨output_mode_of_mode, output_mode_of_mode, output_mode_of_mode, output_mode_of_mode, rfl, rfl, rfl, rfl, rfl, rfl⟩

end Sys2Proof.Machine
end

section
/-! The encoding of 30_encoding.md, through the input ports: what a word packs (R71), which set of operations the
ports request (R73 to R82), and which ports a set leaves unread (R72, R74, R77). -/

namespace Sys2Proof

/-! ### The ports' places in the word (R71) -/

/-- Each bit of a packed word is the bit of the port that format CYC places there (R71, R72). -/
theorem CycleInput.getLsbD_toWord (c : CycleInput) {i : Nat} (hi : i < 32) : c.toWord.getLsbD i =
    if i < 12 then c.raw.getLsbD i else if i = 12 then c.tick else if i = 13 then c.start
    else if i = 14 then c.ack else if i = 15 then c.click else if i < 22 then c.sec.getLsbD (i - 16)
    else if i < 29 then c.min.getLsbD (i - 22) else decide (i = 31) && c.rst := by
  unfold CycleInput.toWord
  change BitVec.getLsbD (w := 1 + 2 + 7 + 6 + 1 + 1 + 1 + 1 + 12) _ i = _
  simp only [BitVec.getLsbD_append, BitVec.getLsbD_ofBool, BitVec.getLsbD_zero]
  interval_cases i <;> simp

theorem rawField_toWord (c : CycleInput) : rawField c.toWord = c.raw := by
  apply BitVec.eq_of_getLsbD_eq
  intro i hi
  rw [rawField, BitVec.getLsbD_extractLsb', CycleInput.getLsbD_toWord c (by omega)]
  grind

theorem secField_toWord (c : CycleInput) : secField c.toWord = c.sec := by
  apply BitVec.eq_of_getLsbD_eq
  intro i hi
  rw [secField, BitVec.getLsbD_extractLsb', CycleInput.getLsbD_toWord c (by omega)]
  grind

theorem minField_toWord (c : CycleInput) : minField c.toWord = c.min := by
  apply BitVec.eq_of_getLsbD_eq
  intro i hi
  rw [minField, BitVec.getLsbD_extractLsb', CycleInput.getLsbD_toWord c (by omega)]
  grind

/-- Packing loses no port (R71). -/
theorem CycleInput.ofWord_toWord (c : CycleInput) : CycleInput.ofWord c.toWord = c := by
  simp [CycleInput.ofWord, ← BitVec.getLsbD_eq_getElem, CycleInput.getLsbD_toWord, minField_toWord, secField_toWord,
    rawField_toWord]

/-- Unpacking loses the reserved bits alone (R72). -/
theorem CycleInput.toWord_ofWord (w : Word) : (CycleInput.ofWord w).toWord = w &&& 0x9FFFFFFF#32 := by
  apply BitVec.eq_of_getLsbD_eq
  intro i hi
  rw [CycleInput.getLsbD_toWord _ hi]
  interval_cases i <;> simp [CycleInput.ofWord, minField, secField, rawField]

/-- Settles O3: every port's bits are where R71 places them. -/
theorem portsPackAndUnpack : Obligations.PortsPackAndUnpack :=
  ⟨CycleInput.ofWord_toWord, CycleInput.toWord_ofWord⟩

/-- The packed word as the OR of the ports' fields, which is how sets of operations are encoded (R91). -/
theorem CycleInput.toWord_eq_or (c : CycleInput) : c.toWord =
    (if c.rst then 0x80000000#32 else 0#32) ||| c.raw.setWidth 32 ||| (if c.tick then 0x00001000#32 else 0#32) |||
      (if c.start then 0x00002000#32 else 0#32) ||| (c.min.setWidth 32 <<< 22) ||| (c.sec.setWidth 32 <<< 16) |||
      (if c.ack then 0x00004000#32 else 0#32) ||| (if c.click then 0x00008000#32 else 0#32) := by
  have hbit : ∀ (b : Bool) (v : Word) (i : Nat), (if b then v else 0#32).getLsbD i = (b && v.getLsbD i) := by
    intro b v i
    cases b <;> simp
  apply BitVec.eq_of_getLsbD_eq
  intro i hi
  rw [CycleInput.getLsbD_toWord c hi]
  simp only [BitVec.getLsbD_or, hbit]
  interval_cases i <;> simp

/-! ### The set of operations that the ports request -/

/-- The strobes among the ports, in the order of R73. -/
def CycleInput.strobes (c : CycleInput) : List Instr :=
  (if c.tick then [.tick] else []) ++ (if c.start then [.start c.min c.sec] else []) ++
  (if c.ack then [.ack] else []) ++ (if c.click then [.click] else [])

/-- The set of operations that the ports request (R74, R80, R82). -/
def CycleInput.request (c : CycleInput) : List Instr :=
  if c.rst then [.rst] else .sample c.raw :: if c.strobes = [] then [.nop] else c.strobes

/-- The ports with `rst` and nothing else. -/
def CycleInput.rstOnly : CycleInput where
  rst := true
  min := 0
  sec := 0
  click := false
  ack := false
  start := false
  tick := false
  raw := 0

/-- The ports with those at 0 that the set does not read: all others under `rst` (R74), the operands without
`start` (R77). -/
def CycleInput.clean (c : CycleInput) : CycleInput :=
  if c.rst then .rstOnly
  else if c.start then c
  else { c with min := 0#7, sec := 0#6 }

theorem CycleInput.clean_of_rst {c : CycleInput} (h : c.rst = true) : c.clean = .rstOnly := if_pos h

theorem CycleInput.clean_of_start {c : CycleInput} (hr : c.rst = false) (h : c.start = true) : c.clean = c := by
  simp [CycleInput.clean, hr, h]

theorem CycleInput.clean_of_no_start {c : CycleInput} (hr : c.rst = false) (h : c.start = false) :
    c.clean = { c with min := 0#7, sec := 0#6 } := by
  simp [CycleInput.clean, hr, h]

theorem CycleInput.request_of_rst {c : CycleInput} (h : c.rst = true) : c.request = [.rst] := if_pos h

theorem CycleInput.request_of_run {c : CycleInput} (h : c.rst = false) :
    c.request = .sample c.raw :: if c.strobes = [] then [.nop] else c.strobes := by
  rw [CycleInput.request, h, if_neg Bool.false_ne_true]

theorem CycleInput.strobes_eq_nil (c : CycleInput) :
    c.strobes = [] ↔ c.tick = false ∧ c.start = false ∧ c.ack = false ∧ c.click = false := by
  simp [CycleInput.strobes]

/-- The ports that are cleared are not read (R74, R77). -/
theorem CycleInput.request_clean (c : CycleInput) : c.clean.request = c.request := by
  cases hr : c.rst with
  | true => rw [CycleInput.clean_of_rst hr, CycleInput.request_of_rst hr, CycleInput.request_of_rst rfl]
  | false =>
    cases hs : c.start with
    | true => rw [CycleInput.clean_of_start hr hs]
    | false =>
      rw [CycleInput.clean_of_no_start hr hs]
      simp [CycleInput.request, CycleInput.strobes, hs]

/-! ### Decoding through the ports -/

/-- The strobes and NOP of a word are those of its ports (R76 to R80). -/
theorem strobesOf_eq (w : Word) :
    strobesOf w = if (CycleInput.ofWord w).strobes = [] then [.nop] else (CycleInput.ofWord w).strobes := by
  have hsplit : strobesOf w = (CycleInput.ofWord w).strobes ++
      (if !w[12] && !w[13] && !w[14] && !w[15] then [.nop] else []) := rfl
  have hnone : (CycleInput.ofWord w).strobes = [] ↔ (!w[12] && !w[13] && !w[14] && !w[15]) = true := by
    rw [CycleInput.strobes_eq_nil]
    simp [CycleInput.ofWord, and_assoc]
  rw [hsplit]
  by_cases h : (CycleInput.ofWord w).strobes = []
  · rw [if_pos h, if_pos (hnone.mp h), h, List.nil_append]
  · rw [if_neg h, if_neg (mt hnone.mpr h), List.append_nil]

/-- The decoder reads the set that the word's ports request (R70, R82). -/
theorem decodeWord_eq_request (w : Word) : decodeWord w = (CycleInput.ofWord w).request := by
  cases h : w[31] with
  | true => rw [decodeWord_rst h, CycleInput.request_of_rst h]
  | false =>
    rw [decodeWord_run h, strobesOf_eq, CycleInput.request_of_run h]
    rfl

/-! ### Encoding through the ports -/

theorem encodeSet_append (a b : List Instr) : encodeSet (a ++ b) = encodeSet a ||| encodeSet b := by
  induction a with
  | nil => simp [encodeSet]
  | cons i rest ih => simp [encodeSet, ih, BitVec.or_assoc]

theorem encodeSet_ite (b : Bool) (i : Instr) :
    encodeSet (if b then [i] else []) = if b then (encode i).getD 0 else 0 := by
  cases b <;> simp [encodeSet]

/-- NOP adds no bit to a word (R80). -/
theorem encodeSet_nop_if_nil (l : List Instr) : encodeSet (if l = [] then [.nop] else l) = encodeSet l := by
  cases l with
  | nil => rfl
  | cons i rest => rw [if_neg (List.cons_ne_nil i rest)]

theorem encodeSet_strobes (c : CycleInput) : encodeSet c.strobes =
    (if c.tick then 0x00001000#32 else 0#32) |||
      (if c.start then 0x00002000#32 ||| (c.min.setWidth 32 <<< 22) ||| (c.sec.setWidth 32 <<< 16) else 0#32) |||
      (if c.ack then 0x00004000#32 else 0#32) ||| (if c.click then 0x00008000#32 else 0#32) := by
  simp only [CycleInput.strobes, encodeSet_append, encodeSet_ite, encode, Option.getD_some, BitVec.ofNat_eq_ofNat,
    BitVec.natCast_eq_ofNat]

/-- The encoding of the requested set is the packed word of the ports that the set reads (R71, R91). -/
theorem encodeSet_request (c : CycleInput) : encodeSet c.request = c.clean.toWord := by
  cases hr : c.rst with
  | true =>
    rw [CycleInput.clean_of_rst hr, CycleInput.request_of_rst hr, CycleInput.toWord_eq_or]
    rfl
  | false =>
    rw [CycleInput.request_of_run hr, encodeSet, encodeSet_nop_if_nil, encodeSet_strobes, encode, Option.getD_some,
      CycleInput.toWord_eq_or]
    cases hs : c.start with
    | true =>
      simp only [CycleInput.clean_of_start hr hs, hr, hs, Bool.false_eq_true, if_false, if_true, BitVec.zero_or,
        BitVec.or_assoc]
    | false =>
      simp only [CycleInput.clean_of_no_start hr hs, hr, hs, Bool.false_eq_true, if_false, BitVec.zero_or,
        BitVec.or_zero, BitVec.setWidth_zero, BitVec.zero_shiftLeft, BitVec.or_assoc]

/-! ### The canonical word -/

theorem CycleInput.ofWord_and (w m : Word) : CycleInput.ofWord (w &&& m) =
    ⟨w[31] && m[31], minField w &&& minField m, secField w &&& secField m, w[15] && m[15], w[14] && m[14],
      w[13] && m[13], w[12] && m[12], rawField w &&& rawField m⟩ := by
  simp [CycleInput.ofWord, minField, secField, rawField, BitVec.extractLsb'_and]

/-- Clearing the ignored bits of a word clears the ports that its set does not read (R72, R74, R77). -/
theorem ofWord_canonicalWord (w : Word) : CycleInput.ofWord (canonicalWord w) = (CycleInput.ofWord w).clean := by
  cases hr : w[31] with
  | true =>
    rw [CycleInput.clean_of_rst hr, canonicalWord, if_pos hr]
    rfl
  | false =>
    have hrun : ¬ w[31] = true := by simp [hr]
    cases hs : w[13] with
    | true =>
      rw [CycleInput.clean_of_start hr hs, canonicalWord, if_neg hrun, if_pos hs, CycleInput.ofWord_and]
      have hmin : minField w &&& minField 0x1FFFFFFF#32 = minField w := BitVec.and_allOnes
      have hsec : secField w &&& secField 0x1FFFFFFF#32 = secField w := BitVec.and_allOnes
      have hraw : rawField w &&& rawField 0x1FFFFFFF#32 = rawField w := BitVec.and_allOnes
      simp [CycleInput.ofWord, hr, hmin, hsec, hraw]
    | false =>
      rw [CycleInput.clean_of_no_start hr hs, canonicalWord, if_neg hrun, if_neg (by simp [hs]),
        CycleInput.ofWord_and]
      have hmin : minField w &&& minField 0x0000FFFF#32 = 0#7 := BitVec.and_zero
      have hsec : secField w &&& secField 0x0000FFFF#32 = 0#6 := BitVec.and_zero
      have hraw : rawField w &&& rawField 0x0000FFFF#32 = rawField w := BitVec.and_allOnes
      simp [CycleInput.ofWord, hr, hmin, hsec, hraw]

/-- A canonical word has no reserved bit (R72). -/
theorem canonicalWord_and_ports (w : Word) : canonicalWord w &&& 0x9FFFFFFF#32 = canonicalWord w := by
  unfold canonicalWord
  split
  · rfl
  · split
    · rw [BitVec.and_assoc]
      rfl
    · rw [BitVec.and_assoc]
      rfl

theorem toWord_clean_ofWord (w : Word) : (CycleInput.ofWord w).clean.toWord = canonicalWord w := by
  rw [← ofWord_canonicalWord, CycleInput.toWord_ofWord, canonicalWord_and_ports]

theorem decodeWord_canonicalWord (w : Word) : decodeWord (canonicalWord w) = decodeWord w := by
  rw [decodeWord_eq_request, ofWord_canonicalWord, CycleInput.request_clean, decodeWord_eq_request]

theorem encodeSet_decodeWord (w : Word) : encodeSet (decodeWord w) = canonicalWord w := by
  rw [decodeWord_eq_request, encodeSet_request, toWord_clean_ofWord]

/-- Settles O2: the canonical word packs the ports that the word's set reads. -/
theorem ignoredBitsCarryNothing : Obligations.IgnoredBitsCarryNothing := fun w =>
  ⟨decodeWord_canonicalWord w, encodeSet_decodeWord w⟩

/-! ### Every request set is that of some ports (R82) -/

/-- The strobes by their places in the table of R73. -/
theorem Instr.strobeRank_cases {i : Instr} {r : Nat} (h : i.strobeRank = some r) :
    (r = 0 ∧ i = .tick) ∨ (r = 1 ∧ ∃ m c, i = .start m c) ∨ (r = 2 ∧ i = .ack) ∨ (r = 3 ∧ i = .click) := by
  cases i <;> cases h <;> simp

theorem Instr.strobesFrom_cons {low : Nat} {i : Instr} {l : List Instr} :
    Instr.strobesFrom low (i :: l) = true ↔
      ∃ r, i.strobeRank = some r ∧ low ≤ r ∧ Instr.strobesFrom (r + 1) l = true := by
  rw [Instr.strobesFrom]
  cases i.strobeRank <;> simp

/-- A list of strobes from one rank on holds the strobe of that rank or not, and then strobes from the next
rank on; `op` shows that the rank is that of a strobe. -/
theorem Instr.strobesFrom_split {low : Nat} {op : Instr} {l : List Instr} (hop : op.strobeRank = some low)
    (h : Instr.strobesFrom low l = true) : ∃ (b : Bool) (i : Instr) (rest : List Instr),
      i.strobeRank = some low ∧ l = (if b then [i] else []) ++ rest ∧ Instr.strobesFrom (low + 1) rest = true := by
  cases l with
  | nil => exact ⟨false, op, [], hop, rfl, rfl⟩
  | cons i rest =>
    obtain ⟨r, hr, hle, hrest⟩ := Instr.strobesFrom_cons.mp h
    rcases hle.eq_or_lt with rfl | hlt
    · exact ⟨true, i, rest, hr, rfl, hrest⟩
    · exact ⟨false, op, i :: rest, hop, rfl, Instr.strobesFrom_cons.mpr ⟨r, hr, hlt, hrest⟩⟩

/-- There is no strobe past CLICK. -/
theorem Instr.strobesFrom_four {l : List Instr} (h : Instr.strobesFrom 4 l = true) : l = [] := by
  cases l with
  | nil => rfl
  | cons i rest =>
    obtain ⟨r, hr, hle, -⟩ := Instr.strobesFrom_cons.mp h
    have hrank := Instr.strobeRank_cases hr
    omega

/-- Strobes in the table's order are the strobes of some ports, whose `raw` is free. -/
theorem CycleInput.exists_strobes {l : List Instr} (h : Instr.strobesFrom 0 l = true) (raw : KeyVec) :
    ∃ c : CycleInput, c.rst = false ∧ c.raw = raw ∧ c.strobes = l := by
  obtain ⟨tick, i0, l1, hi0, rfl, h1⟩ := Instr.strobesFrom_split (op := .tick) rfl h
  obtain ⟨start, i1, l2, hi1, rfl, h2⟩ := Instr.strobesFrom_split (op := .start 0 0) rfl h1
  obtain ⟨ack, i2, l3, hi2, rfl, h3⟩ := Instr.strobesFrom_split (op := .ack) rfl h2
  obtain ⟨click, i3, l4, hi3, rfl, h4⟩ := Instr.strobesFrom_split (op := .click) rfl h3
  obtain rfl := Instr.strobesFrom_four h4
  obtain rfl : i0 = .tick := by simpa using Instr.strobeRank_cases hi0
  obtain ⟨min, sec, rfl⟩ : ∃ m c, i1 = .start m c := by simpa using Instr.strobeRank_cases hi1
  obtain rfl : i2 = .ack := by simpa using Instr.strobeRank_cases hi2
  obtain rfl : i3 = .click := by simpa using Instr.strobeRank_cases hi3
  exact ⟨⟨false, min, sec, click, ack, start, tick, raw⟩, rfl, rfl, by simp [CycleInput.strobes]⟩

theorem CycleInput.exists_request {ops : List Instr} (h : Instr.requestSet ops = true) :
    ∃ c : CycleInput, c.request = ops := by
  unfold Instr.requestSet at h
  split at h
  · exact ⟨.rstOnly, rfl⟩
  · next raw => exact ⟨⟨false, 0, 0, false, false, false, false, raw⟩, rfl⟩
  · next raw i rest _ =>
    obtain ⟨c, hrst, hraw, hstrobes⟩ := CycleInput.exists_strobes h raw
    exact ⟨c, by rw [CycleInput.request_of_run hrst, hraw, hstrobes, if_neg (List.cons_ne_nil i rest)]⟩
  · cases h

/-- Settles O1: the set is that of some ports; its encoding packs those of them that it reads, and the decoder
unpacks them. -/
theorem requestSetsRoundTrip : Obligations.RequestSetsRoundTrip := by
  intro ops h
  obtain ⟨c, rfl⟩ := CycleInput.exists_request h
  rw [encodeSet_request, decodeWord_eq_request, CycleInput.ofWord_toWord, CycleInput.request_clean]

end Sys2Proof
end

section
/-! What the decoded set holds and how it names a word (30_encoding.md R73 to R82). -/

namespace Sys2Proof

/-- SAMPLE is in the set of a word without RST with the operand of bits 11:0 and no other (R75). -/
theorem sample_mem_decodeWord_iff {w : Word} (h : w[31] = false) (raw : KeyVec) :
    Instr.sample raw ∈ decodeWord w ↔ raw = rawField w := by
  rw [decodeWord_run h]
  simp [strobesOf]

/-- START is in the set of a word without RST exactly under bit 13, with the word's operands (R77). -/
theorem start_mem_decodeWord {w : Word} (h : w[31] = false) (m : BitVec 7) (c : BitVec 6) :
    Instr.start m c ∈ decodeWord w ↔ w[13] = true ∧ m = minField w ∧ c = secField w := by
  rw [decodeWord_run h]
  simp [strobesOf]

/-- NOP is in the set of a word without RST exactly when no strobe is (R80). -/
theorem nop_mem_decodeWord {w : Word} (h : w[31] = false) :
    Instr.nop ∈ decodeWord w ↔ w[15] = false ∧ w[14] = false ∧ w[13] = false ∧ w[12] = false := by
  rw [decodeWord_run h]
  simp only [strobesOf, List.mem_cons, List.mem_append, List.mem_ite_nil_right, reduceCtorEq, false_or,
    Bool.and_eq_true, Bool.not_eq_true']
  tauto

/-- No word requests an internal operation (R81). -/
theorem external_of_mem_decodeWord {w : Word} {i : Instr} (h : i ∈ decodeWord w) : i.external = true := by
  simp only [decodeWord, rowOf, List.mem_append, List.mem_ite_nil_right, List.mem_singleton] at h
  rcases h with ((((((⟨-, rfl⟩ | ⟨-, rfl⟩) | ⟨-, rfl⟩) | ⟨-, rfl⟩) | ⟨-, rfl⟩) | ⟨-, rfl⟩) | ⟨-, rfl⟩) <;> rfl

/-- Settles O5, operation by operation. -/
theorem decodedSetIsTheSelectedOperations : Obligations.DecodedSetIsTheSelectedOperations := by
  intro w
  refine ⟨decodeWord_rst, fun h => ⟨?_, sample_mem_decodeWord_iff h, tick_mem_decodeWord h, start_mem_decodeWord h,
    ack_mem_decodeWord h, click_mem_decodeWord h, nop_mem_decodeWord h, fun _ => external_of_mem_decodeWord⟩⟩
  rw [rst_mem_decodeWord, h]
  exact Bool.false_ne_true

/-! ### The operation that names a word (log entry 5) -/

/-- A 32-bit word is named by the last operation of its set. -/
theorem decodeTableWord_toNat (w : Word) : decodeTableWord 32 w.toNat = (decodeWord w).getLast? := by
  rw [decodeTableWord, if_pos le_rfl, Nat.mod_eq_of_lt w.isLt, BitVec.ofNat_toNat, BitVec.setWidth_eq, primaryOp]

/-- The round trip, from the word. -/
theorem decodeWord_of_encodeSet {ops : List Instr} {w : Word} (hops : Instr.requestSet ops = true)
    (hw : encodeSet ops = w) : decodeWord w = ops :=
  hw ▸ requestSetsRoundTrip ops hops

theorem encodeSet_sample_nop (raw : KeyVec) : encodeSet [.sample raw, .nop] = raw.setWidth 32 := by
  simp [encodeSet, encode]

/-- SAMPLE of no key adds no bit to an operation's word (R75). -/
theorem encodeSet_sample_zero {i : Instr} {w : Word} (h : encode i = some w) : encodeSet [.sample 0, i] = w := by
  rw [encodeSet, encodeSet, h]
  simp [encodeSet, encode]

/-- An operation other than SAMPLE stands last in the set of its own word. -/
theorem getLast?_decodeWord_of_encode {i : Instr} {w : Word} (h : encode i = some w)
    (hi : ∀ raw, i ≠ .sample raw) : (decodeWord w).getLast? = some i := by
  have besideSample (hreq : Instr.requestSet [.sample 0, i] = true) : (decodeWord w).getLast? = some i := by
    rw [decodeWord_of_encodeSet hreq (encodeSet_sample_zero h)]
    rfl
  cases i with
  | rst =>
    obtain rfl := Option.some.inj h
    rw [decodeWord_rst rfl]
    rfl
  | sample raw => exact absurd rfl (hi raw)
  | tick => exact besideSample rfl
  | start m c => exact besideSample rfl
  | ack => exact besideSample rfl
  | click => exact besideSample rfl
  | nop => exact besideSample rfl
  | done | burst | stop | cue | advance | servo => cases h

/-- Settles O4: SAMPLE's word requests SAMPLE and NOP; every other operation stands last in the set of its word. -/
theorem encodedOperationIsDecoded : Obligations.EncodedOperationIsDecoded := by
  intro i w h
  by_cases hi : ∃ raw, i = .sample raw
  · obtain ⟨raw, rfl⟩ := hi
    obtain rfl := Option.some.inj h
    refine ⟨?_, fun hne => absurd rfl (hne raw)⟩
    rw [decodeWord_of_encodeSet rfl (encodeSet_sample_nop raw)]
    exact List.mem_cons_self
  · have hlast := getLast?_decodeWord_of_encode h (not_exists.mp hi)
    exact ⟨List.mem_of_getLast? hlast, fun _ => (decodeTableWord_toNat w).trans hlast⟩

/-- Settles O6: two words have RST, six are the encodings of their sets, and the word 0 is NOP's. -/
theorem wordsOfTheSpecDecode : Obligations.WordsOfTheSpecDecode :=
  ⟨decodeWord_rst rfl, decodeWord_rst rfl, decodeWord_of_encodeSet rfl rfl, decodeWord_of_encodeSet rfl rfl,
    decodeWord_of_encodeSet rfl rfl, decodeWord_of_encodeSet rfl rfl, decodeWord_of_encodeSet rfl rfl,
    decodeWord_of_encodeSet rfl rfl, (decodeTableWord_toNat 0).trans (getLast?_decodeWord_of_encode rfl nofun)⟩

end Sys2Proof
end

section
/-! What the step does with the decoded operations (30_encoding.md R72, R80, R82, R85). -/

namespace Sys2Proof.Machine

/-! ### The step reads the decoded set alone -/

theorem step_present (s : State) (w : Word) : step (s.present w) =
    if s.cfg.Valid then clockOps (decodeWord w) s else .refused .configOutOfRange := rfl

/-- Settles O48: the step reads a word through its decoded set. -/
theorem stepIgnoresUnusedBits : Obligations.StepIgnoresUnusedBits := by
  intro s w
  rw [step_present, step_present, decodeWord_canonicalWord]

theorem eq_nextState_of_step {s t : State} {w : Word} (h : w[31] = false) (hstep : step (s.present w) = .next t) :
    t = nextState s w := by
  have hc : s.cfg.Valid := (step_cases hstep).1
  rw [step_present_run hc h] at hstep
  exact (Host.Outcome.next.inj hstep).symm

/-! ### What the chosen operation writes is what the cycle writes (R130, R143) -/

theorem nextCd_of_exec_countdownOp {s e : State} {w : Word} {i : Instr} (h : w[31] = false)
    (hop : countdownOp (decodeWord w) s = some i) (he : exec i s = .next e) : nextCd s w = e.cd := by
  obtain ⟨b, hb, hcd⟩ := runOr_countdown h s
  rw [hop, runOr, he] at hb
  rw [← hcd, Host.Outcome.next.inj hb]

theorem nextSeq_of_exec_sequencerOp {s e : State} {w : Word} {i : Instr} (h : w[31] = false)
    (hop : sequencerOp (decodeWord w) s (nextCd s w) = i) (he : exec i s = .next e) : nextSeq s w = e.seq := by
  obtain ⟨c, hexec, hseq⟩ := exec_sequencerOp h s
  rw [hop, he] at hexec
  rw [← hseq, Host.Outcome.next.inj hexec]

/-- RUNNING enables TICK (R130). -/
theorem countdownOp_tick {s : State} {w : Word} (hm : s.cd.mode = .running) (hi : Instr.tick ∈ decodeWord w) :
    countdownOp (decodeWord w) s = some .tick := by
  simp [countdownOp, hm, hi]

/-- IDLE enables START (R130). -/
theorem countdownOp_start {s : State} {w : Word} {m : BitVec 7} {c : BitVec 6} (h : w[31] = false)
    (hm : s.cd.mode = .idle) (hi : Instr.start m c ∈ decodeWord w) :
    countdownOp (decodeWord w) s = some (.start m c) := by
  obtain ⟨h13, rfl, rfl⟩ := (start_mem_decodeWord h m c).mp hi
  simp [countdownOp, hm, startOp_decodeWord h, h13]

/-- ACK in EXPIRED re-arms (R127). -/
theorem exec_ack_of_expired {s : State} (hm : s.cd.mode = .expired) : exec .ack s = .next (s.withCd .rearm) :=
  if_pos hm

/-- EXPIRED re-arms under ACK, whether or not DONE is caused in the same cycle (R127, R130). -/
theorem nextCd_of_ack {s : State} {w : Word} (hm : s.cd.mode = .expired) (h14 : w[14] = true) :
    nextCd s w = .rearm := by
  simp [nextCd, hm, h14]

/-- In IDLE, with no zero-duration START, unit CD starts a countdown or rests (R121). -/
theorem nextCd_of_idle {s : State} {w : Word} (hm : s.cd.mode = .idle)
    (hn : w[13] = true → startTicks (minField w) (secField w) ≠ 0#13) :
    nextCd s w = s.cd.rest ∨ ∃ n, nextCd s w = .begin n := by
  cases countdownRow s w with
  | start _ _ _ next => exact .inr ⟨_, next⟩
  | startZero _ word ticks _ => exact absurd ticks (hn word)
  | decrement mode _ _ _ => simp [hm] at mode
  | lastTick mode _ _ _ => simp [hm] at mode
  | rearm mode _ _ => simp [hm] at mode
  | rest _ _ _ next => exact .inl next

/-- CLICK is honoured in IDLE when unit CD raises no event that writes the sequencer (R143). -/
theorem sequencerOp_click {s : State} {w : Word} (hm : s.cd.mode = .idle) (hi : Instr.click ∈ decodeWord w)
    (hcd : nextCd s w = s.cd.rest ∨ ∃ n, nextCd s w = .begin n) :
    sequencerOp (decodeWord w) s (nextCd s w) = .click := by
  rcases hcd with h | ⟨n, h⟩ <;> simp [sequencerOp, h, hi, hm]

/-- Settles O8: the cycle chooses TICK, START and CLICK where they are enabled, and ACK and DONE are one
transition. -/
theorem enabledOperationReachesTheStep : Obligations.EnabledOperationReachesTheStep := by
  intro s t e w i hw hi he hstep
  obtain rfl := eq_nextState_of_step hw hstep
  refine ⟨?sample, ?tick, ?start, ?ack, ?click⟩
  case sample =>
    rintro raw rfl
    obtain rfl := (sample_mem_decodeWord_iff hw raw).mp hi
    obtain rfl := Host.Outcome.next.inj ((exec_sample _ s).symm.trans he)
    rfl
  case tick =>
    rintro rfl hm
    exact nextCd_of_exec_countdownOp hw (countdownOp_tick hm hi) he
  case start =>
    rintro m c rfl hm
    exact nextCd_of_exec_countdownOp hw (countdownOp_start hw hm hi) he
  case ack =>
    rintro rfl hm
    obtain rfl := Host.Outcome.next.inj ((exec_ack_of_expired hm).symm.trans he)
    exact nextCd_of_ack hm ((ack_mem_decodeWord hw).mp hi)
  case click =>
    rintro rfl hm hzero
    have hcd := nextCd_of_idle hm fun h13 => hzero _ _ ((start_mem_decodeWord hw _ _).mpr ⟨h13, rfl, rfl⟩)
    exact nextSeq_of_exec_sequencerOp hw (sequencerOp_click hm hi hcd) he

/-! ### A word with no strobe (R80) -/

/-- In IDLE and RUNNING a word with no strobe leaves unit CD at rest (R121). -/
theorem nextCd_of_quiet {s : State} {w : Word} (hq : Quiet w) (hm : s.cd.mode = .idle ∨ s.cd.mode = .running) :
    nextCd s w = s.cd.rest := by
  obtain ⟨-, -, -, h13, h12⟩ := hq
  rcases hm with hm | hm <;> simp [nextCd, hm, h13, h12]

/-- Without CLICK, and with unit CD at rest, the sequencer advances (R143). -/
theorem nextSeq_of_rest {s : State} {w : Word} (hcd : nextCd s w = s.cd.rest) (h15 : w[15] = false) :
    nextSeq s w = s.seq.clock s.cfg := by
  simp [nextSeq, hcd, h15]

/-- Settles O13: SAMPLE, ADVANCE and SERVO run in the cycle, and unit CD rests. -/
theorem nopCycleStillRuns : Obligations.NopCycleStillRuns := by
  intro s
  refine ⟨rfl, fun w hc hq hm => ?_⟩
  have hused : s.cd.mode ≠ .unused := by rcases hm with hm | hm <;> simp [hm]
  have hcd := nextCd_of_quiet hq hm
  obtain ⟨h31, h15, -⟩ := hq
  refine ⟨_, _, _, _, step_present_run hc h31, exec_sample _ s, rfl, exec_servo _ _ s, rfl,
    nextSeq_of_rest hcd h15, ?servo, ?mode, ?rem⟩
  case servo => simp [nextState, hcd]
  case mode => rw [nextState_cd, hcd, Countdown.rest_mode_of_used hused]
  case rem => rw [nextState_cd, hcd, Countdown.rest_rem, if_neg hused]

/-! ### START (R85, R123) -/

/-- START of a non-zero duration in IDLE begins a countdown of that many ticks (R123). -/
theorem exec_start_of_idle {s : State} {m : BitVec 7} {c : BitVec 6} (hm : s.cd.mode = .idle)
    (hn : startTicks m c ≠ 0#13) : exec (.start m c) s = .next (s.withCd (.begin (startTicks m c))) :=
  (if_pos hm).trans (if_neg hn)

/-- Settles O22: 13 bits hold the duration, which is not zero. -/
theorem startBeginsACountdown : Obligations.StartBeginsACountdown := by
  intro m c s hm hpos
  have hticks := startTicks_toNat m c
  have hne : startTicks m c ≠ 0#13 := by
    intro hzero
    have hnat : (startTicks m c).toNat = 0 := by rw [hzero, BitVec.toNat_zero]
    omega
  exact ⟨startTicks m c, hticks, startTicks_le m c, exec_start_of_idle hm hne⟩

end Sys2Proof.Machine
end

section
/-! One cycle of one key line (40_debounce.md): the rows of R102's table, the strobe (R107) and what the line's
next state depends on (R111). -/

namespace Sys2Proof.Machine

/-! ### The rows of R102 -/

/-- R103, rest. -/
theorem DebounceLine.debounce_rest (cfg : Config) {l : DebounceLine} (hp : l.dph = .idle) (hx : l.sy2 = false) :
    l.debounce cfg = { l with kev := false } := by
  simp [debounce, hp, hx]

/-- R103, detect. -/
theorem DebounceLine.debounce_detect (cfg : Config) {l : DebounceLine} (hp : l.dph = .idle) (hx : l.sy2 = true) :
    l.debounce cfg = { l with dph := .settle, dcnt := cfg.tSettle, kev := false } := by
  simp [debounce, hp, hx]

/-- R104, wait. -/
theorem DebounceLine.debounce_wait (cfg : Config) {l : DebounceLine} (hp : l.dph = .settle)
    (hcnt : 1 < l.dcnt.toNat) : l.debounce cfg = { l with dcnt := l.dcnt - 1#16, kev := false } := by
  simp [debounce, hp, BitVec.lt_def, hcnt]

/-- R105, confirm. -/
theorem DebounceLine.debounce_confirm (cfg : Config) {l : DebounceLine} (hp : l.dph = .settle)
    (hcnt : l.dcnt.toNat ≤ 1) (hx : l.sy2 = true) :
    l.debounce cfg = { l with dph := .held, dcnt := 0#16, kev := true } := by
  simp [debounce, hp, BitVec.lt_def, hcnt.not_gt, hx]

/-- R105, reject. -/
theorem DebounceLine.debounce_reject (cfg : Config) {l : DebounceLine} (hp : l.dph = .settle)
    (hcnt : l.dcnt.toNat ≤ 1) (hx : l.sy2 = false) :
    l.debounce cfg = { l with dph := .idle, dcnt := 0#16, kev := false } := by
  simp [debounce, hp, BitVec.lt_def, hcnt.not_gt, hx]

/-- R106, suppress. -/
theorem DebounceLine.debounce_suppress (cfg : Config) {l : DebounceLine} (hp : l.dph = .held)
    (hx : l.sy2 = true) : l.debounce cfg = { l with kev := false } := by
  simp [debounce, hp, hx]

/-- R106, release. -/
theorem DebounceLine.debounce_release (cfg : Config) {l : DebounceLine} (hp : l.dph = .held)
    (hx : l.sy2 = false) : l.debounce cfg = { l with dph := .idle, kev := false } := by
  simp [debounce, hp, hx]

/-- R109, recover. -/
theorem DebounceLine.debounce_recover (cfg : Config) {l : DebounceLine} (hp : l.dph = .unused) :
    l.debounce cfg = { l with dph := .idle, dcnt := 0#16, kev := false } := by
  simp [debounce, hp]

/-- Settles O14: row by row of R102. -/
theorem sampleDebouncesEveryLine : Obligations.SampleDebouncesEveryLine := by
  intro raw s
  refine ⟨_, exec_sample raw s, fun k => ?_⟩
  simp only [sampleLines_line, DebounceLine.clock_dph, DebounceLine.clock_dcnt, DebounceLine.clock_kev]
  refine ⟨?rest, ?detect, ?wait, ?confirm, ?reject, ?suppress, ?release, ?recover⟩
  case rest => intro hp hx; rw [DebounceLine.debounce_rest _ hp hx]; exact ⟨hp, rfl, rfl⟩
  case detect => intro hp hx; rw [DebounceLine.debounce_detect _ hp hx]; exact ⟨rfl, rfl, rfl⟩
  case wait => intro hp hcnt; rw [DebounceLine.debounce_wait _ hp hcnt]; exact ⟨hp, rfl, rfl⟩
  case confirm => intro hp hcnt hx; rw [DebounceLine.debounce_confirm _ hp hcnt hx]; exact ⟨rfl, rfl, rfl⟩
  case reject => intro hp hcnt hx; rw [DebounceLine.debounce_reject _ hp hcnt hx]; exact ⟨rfl, rfl, rfl⟩
  case suppress => intro hp hx; rw [DebounceLine.debounce_suppress _ hp hx]; exact ⟨hp, rfl⟩
  case release => intro hp hx; rw [DebounceLine.debounce_release _ hp hx]; exact ⟨rfl, rfl⟩
  case recover => intro hp; rw [DebounceLine.debounce_recover _ hp]; exact ⟨rfl, rfl, rfl⟩

/-- Neither row of DB_HELD writes the count (R106). -/
theorem DebounceLine.debounce_dcnt_of_held (cfg : Config) {l : DebounceLine} (hp : l.dph = .held) :
    (l.debounce cfg).dcnt = l.dcnt := by
  cases hx : l.sy2 with
  | true => rw [debounce_suppress cfg hp hx]
  | false => rw [debounce_release cfg hp hx]

/-- Settles O15: DB_HELD writes no count, and the invariant has it at 0 there. -/
theorem heldPhaseKeepsTheCount : Obligations.HeldPhaseKeepsTheCount := by
  intro raw s
  refine ⟨_, exec_sample raw s, fun k hp => ?_⟩
  have hkeep := DebounceLine.debounce_dcnt_of_held s.cfg hp
  simp only [sampleLines_line, DebounceLine.clock_dcnt]
  exact ⟨hkeep, fun hinv => hkeep.trans (hinv.other_zero (hp.trans_ne nofun))⟩

/-! ### The strobe, and the entry to DB_SETTLE -/

/-- The strobe rises by the confirm row and by no other (R107). -/
theorem DebounceLine.debounce_kev_iff (cfg : Config) (l : DebounceLine) :
    (l.debounce cfg).kev = true ↔ l.dph = .settle ∧ l.dcnt.toNat ≤ 1 ∧ l.sy2 = true := by
  cases hp : l.dph with
  | idle =>
    cases hx : l.sy2 with
    | true => simp [debounce_detect cfg hp hx]
    | false => simp [debounce_rest cfg hp hx]
  | settle =>
    rcases Nat.lt_or_ge 1 l.dcnt.toNat with hcnt | hcnt
    · simp [debounce_wait cfg hp hcnt, hcnt]
    · cases hx : l.sy2 with
      | true => simp [debounce_confirm cfg hp hcnt hx, hcnt]
      | false => simp [debounce_reject cfg hp hcnt hx]
  | held =>
    cases hx : l.sy2 with
    | true => simp [debounce_suppress cfg hp hx]
    | false => simp [debounce_release cfg hp hx]
  | unused => simp [debounce_recover cfg hp]

/-- A line is in DB_SETTLE after a cycle that detects or waits (R103, R104). -/
theorem DebounceLine.of_debounce_settle {cfg : Config} {l : DebounceLine} (h : (l.debounce cfg).dph = .settle) :
    (l.dph = .idle ∧ (l.debounce cfg).dcnt = cfg.tSettle) ∨
      (l.dph = .settle ∧ (l.debounce cfg).dcnt.toNat + 1 = l.dcnt.toNat) := by
  cases hp : l.dph with
  | idle =>
    cases hx : l.sy2 with
    | true => simp [debounce_detect cfg hp hx]
    | false => simp [debounce_rest cfg hp hx, hp] at h
  | settle =>
    rcases Nat.lt_or_ge 1 l.dcnt.toNat with hcnt | hcnt
    · refine .inr ⟨rfl, ?_⟩
      rw [debounce_wait cfg hp hcnt]
      dsimp only
      bv_omega
    · cases hx : l.sy2 with
      | true => simp [debounce_confirm cfg hp hcnt hx] at h
      | false => simp [debounce_reject cfg hp hcnt hx] at h
  | held =>
    cases hx : l.sy2 with
    | true => simp [debounce_suppress cfg hp hx, hp] at h
    | false => simp [debounce_release cfg hp hx] at h
  | unused => simp [debounce_recover cfg hp] at h

/-! ### Independence (R111) -/

/-- Of the parameters a line reads T_SETTLE alone. -/
theorem DebounceLine.clock_congr {c1 c2 : Config} (h : c1.tSettle = c2.tSettle) (raw : Bool) (l : DebounceLine) :
    l.clock c1 raw = l.clock c2 raw := by
  simp only [clock, debounce, h]

/-- Settles O17: line k after the cycle is the clocked line k. -/
theorem linesAreIndependent : Obligations.LinesAreIndependent := by
  intro s1 s2 t1 t2 w1 w2 k hw1 hw2 hsettle hline hraw hstep1 hstep2
  obtain rfl := eq_nextState_of_step hw1 hstep1
  obtain rfl := eq_nextState_of_step hw2 hstep2
  rw [nextState_line, nextState_line, hline, hraw]
  exact DebounceLine.clock_congr hsettle _ _

end Sys2Proof.Machine
end

section
/-! One key line over a run: the synchroniser's delay (R101), the settle interval (R103 to R105), the spacing of
events (R107), the clean press (R112) and the bounce (R113). -/

namespace Sys2Proof.Machine

/-- Line k in cycle j of the run of the words `ws` from `s`. -/
def lineAt (ws : List Word) (s : State) (k : KeyLine) (j : Nat) : DebounceLine :=
  (runState (ws.take j) s).lines[k]

@[simp] theorem lineAt_zero (ws : List Word) (s : State) (k : KeyLine) : lineAt ws s k 0 = s.lines[k] := rfl

theorem lineAt_length (ws : List Word) (s : State) (k : KeyLine) :
    lineAt ws s k ws.length = (runState ws s).lines[k] := by
  rw [lineAt, List.take_length]

section
variable {ws : List Word} {s : State} {k : KeyLine} {i j : Nat}

theorem lineAt_succ (hj : j < ws.length) :
    lineAt ws s k (j + 1) = (lineAt ws s k j).clock s.cfg (ws[j].getLsbD k) := by
  rw [lineAt, runState_take_succ _ _ _ hj, nextState_line, runState_cfg, lineAt]

/-! ### The synchroniser (R101) -/

theorem lineAt_sy2_succ (hj : j < ws.length) : (lineAt ws s k (j + 1)).sy2 = (lineAt ws s k j).sy1 := by
  rw [lineAt_succ hj, DebounceLine.clock_sy2]

/-- The sample of a cycle is the raw bit of two cycles before. -/
theorem lineAt_sy2_add_two (hj : j + 1 < ws.length) :
    (lineAt ws s k (j + 2)).sy2 = ws[j].getLsbD k := by
  rw [lineAt_sy2_succ hj, lineAt_succ (by omega), DebounceLine.clock_sy1]

/-! ### One cycle of the debounce machine in a run -/

theorem lineAt_kev_succ (hj : j < ws.length) : (lineAt ws s k (j + 1)).kev = true ↔
    (lineAt ws s k j).dph = .settle ∧ (lineAt ws s k j).dcnt.toNat ≤ 1 ∧ (lineAt ws s k j).sy2 = true := by
  rw [lineAt_succ hj, DebounceLine.clock_kev, DebounceLine.debounce_kev_iff]

theorem lineAt_idle_of_rest (hj : j < ws.length) (hp : (lineAt ws s k j).dph = .idle)
    (hx : (lineAt ws s k j).sy2 = false) : (lineAt ws s k (j + 1)).dph = .idle := by
  rw [lineAt_succ hj, DebounceLine.clock_dph, DebounceLine.debounce_rest _ hp hx, hp]

theorem lineAt_idle_of_reject (hj : j < ws.length) (hp : (lineAt ws s k j).dph = .settle)
    (hcnt : (lineAt ws s k j).dcnt.toNat ≤ 1) (hx : (lineAt ws s k j).sy2 = false) :
    (lineAt ws s k (j + 1)).dph = .idle := by
  rw [lineAt_succ hj, DebounceLine.clock_dph, DebounceLine.debounce_reject _ hp hcnt hx]

theorem lineAt_held_of_confirm (hj : j < ws.length) (hp : (lineAt ws s k j).dph = .settle)
    (hcnt : (lineAt ws s k j).dcnt.toNat ≤ 1) (hx : (lineAt ws s k j).sy2 = true) :
    (lineAt ws s k (j + 1)).dph = .held := by
  rw [lineAt_succ hj, DebounceLine.clock_dph, DebounceLine.debounce_confirm _ hp hcnt hx]

theorem lineAt_held_of_suppress (hj : j < ws.length) (hp : (lineAt ws s k j).dph = .held)
    (hx : (lineAt ws s k j).sy2 = true) : (lineAt ws s k (j + 1)).dph = .held := by
  rw [lineAt_succ hj, DebounceLine.clock_dph, DebounceLine.debounce_suppress _ hp hx, hp]

theorem lineAt_idle_of_release (hj : j < ws.length) (hp : (lineAt ws s k j).dph = .held)
    (hx : (lineAt ws s k j).sy2 = false) : (lineAt ws s k (j + 1)).dph = .idle := by
  rw [lineAt_succ hj, DebounceLine.clock_dph, DebounceLine.debounce_release _ hp hx]

/-! ### The settle interval -/

/-- After a detection in cycle i the count falls by one in each cycle, from T_SETTLE in cycle i + 1 to 1 in cycle
i + T_SETTLE, whatever the line does meanwhile (R103, R104). -/
theorem lineAt_settling (hp : (lineAt ws s k i).dph = .idle) (hx : (lineAt ws s k i).sy2 = true)
    (hj : j < s.cfg.tSettle.toNat) (hlen : i + j < ws.length) :
    (lineAt ws s k (i + j + 1)).dph = .settle ∧
      (lineAt ws s k (i + j + 1)).dcnt.toNat = s.cfg.tSettle.toNat - j := by
  induction j with
  | zero =>
    rw [lineAt_succ hlen, DebounceLine.clock_dph, DebounceLine.clock_dcnt, Nat.add_zero,
      DebounceLine.debounce_detect _ hp hx]
    exact ⟨rfl, rfl⟩
  | succ j ih =>
    obtain ⟨hphase, hcnt⟩ := ih (by omega) (by omega)
    rw [lineAt_succ hlen, DebounceLine.clock_dph, DebounceLine.clock_dcnt, ← Nat.add_assoc,
      DebounceLine.debounce_wait _ hphase (by omega)]
    refine ⟨hphase, ?_⟩
    dsimp only
    bv_omega

/-- From a held line, DB_SETTLE is entered in cycle 2 at the earliest, with T_SETTLE to count (R106). -/
theorem lineAt_settle_of_held (hp : s.lines[k].dph = .held) (hj : j ≤ ws.length)
    (hsettle : (lineAt ws s k j).dph = .settle) :
    s.cfg.tSettle.toNat + 2 ≤ j + (lineAt ws s k j).dcnt.toNat := by
  induction j with
  | zero => cases hp.symm.trans hsettle
  | succ j ih =>
    rw [lineAt_succ hj, DebounceLine.clock_dph] at hsettle
    rw [lineAt_succ hj, DebounceLine.clock_dcnt]
    rcases DebounceLine.of_debounce_settle hsettle with ⟨hidle, hcnt⟩ | ⟨hwait, hcnt⟩
    · have hpos : j ≠ 0 := by
        rintro rfl
        cases hp.symm.trans hidle
      rw [hcnt]
      omega
    · have hbefore := ih (by omega) hwait
      omega

/-! ### The clean press (R112) -/

/-- A press captured from an idle line: n cycles of 1, long enough to reach the confirming sample, and three of
0. -/
structure CleanPress (ws : List Word) (s : State) (k : KeyLine) (n : Nat) : Prop where
  idle : s.lines[k].dph = .idle
  sy1_low : s.lines[k].sy1 = false
  sy2_low : s.lines[k].sy2 = false
  no_event : s.lines[k].kev = false
  settle_pos : 1 ≤ s.cfg.tSettle.toNat
  long : s.cfg.tSettle.toNat < n
  length : ws.length = n + 3
  raw : ∀ j (hj : j < ws.length), ws[j].getLsbD k = decide (j < n)

variable {n : Nat}

/-- The sample is 1 from cycle 2 to cycle n + 1. -/
theorem CleanPress.sy2 (h : CleanPress ws s k n) (hj : j ≤ n + 3) :
    (lineAt ws s k j).sy2 = decide (2 ≤ j ∧ j < n + 2) := by
  have hlen := h.length
  match j with
  | 0 =>
    rw [lineAt_zero, h.sy2_low]
    simp
  | 1 =>
    rw [lineAt_sy2_succ (by omega), lineAt_zero, h.sy1_low]
    simp
  | j + 2 =>
    rw [lineAt_sy2_add_two (by omega), h.raw]
    simp

/-- Until the press has passed the synchroniser the line rests. -/
theorem CleanPress.resting (h : CleanPress ws s k n) (hj : j ≤ 2) : (lineAt ws s k j).dph = .idle := by
  have hlen := h.length
  induction j with
  | zero => exact h.idle
  | succ j ih =>
    have hlow : (lineAt ws s k j).sy2 = false := by
      rw [h.sy2 (by omega), decide_eq_false_iff_not]
      omega
    exact lineAt_idle_of_rest (by omega) (ih (by omega)) hlow

/-- Its first sample is a detection, in cycle 2. -/
theorem CleanPress.settling (h : CleanPress ws s k n) (hj : j < s.cfg.tSettle.toNat) :
    (lineAt ws s k (j + 3)).dph = .settle ∧
      (lineAt ws s k (j + 3)).dcnt.toNat = s.cfg.tSettle.toNat - j := by
  have hlen := h.length
  have hlong := h.long
  have hhigh : (lineAt ws s k 2).sy2 = true := by
    rw [h.sy2 (by omega), decide_eq_true_iff]
    omega
  have hwait := lineAt_settling (h.resting le_rfl) hhigh hj (by omega)
  rwa [show 2 + j + 1 = j + 3 by omega] at hwait

/-- The confirming sample is 1, and the line is held as long as the sample is. -/
theorem CleanPress.held (h : CleanPress ws s k n) (hlo : s.cfg.tSettle.toNat + 3 ≤ j) (hhi : j ≤ n + 2) :
    (lineAt ws s k j).dph = .held := by
  have hlen := h.length
  have hpos := h.settle_pos
  have hhigh : ∀ i, 2 ≤ i → i < n + 2 → (lineAt ws s k i).sy2 = true := fun i h2 hn => by
    rw [h.sy2 (by omega), decide_eq_true_iff]
    exact ⟨h2, hn⟩
  induction j, hlo using Nat.le_induction with
  | base =>
    obtain ⟨hphase, hcnt⟩ := h.settling (j := s.cfg.tSettle.toNat - 1) (by omega)
    rw [show s.cfg.tSettle.toNat - 1 + 3 = s.cfg.tSettle.toNat + 2 by omega] at hphase hcnt
    exact lineAt_held_of_confirm (by omega) hphase (by omega) (hhigh _ (by omega) (by omega))
  | succ j hlo ih =>
    exact lineAt_held_of_suppress (by omega) (ih (by omega)) (hhigh j (by omega) (by omega))

/-- The first 0 sample re-arms the line, three cycles after the press. -/
theorem CleanPress.released (h : CleanPress ws s k n) : (lineAt ws s k (n + 3)).dph = .idle := by
  have hlen := h.length
  have hlong := h.long
  have hlow : (lineAt ws s k (n + 2)).sy2 = false := by simp [h.sy2 (j := n + 2) (by omega)]
  exact lineAt_idle_of_release (by omega) (h.held (by omega) le_rfl) hlow

/-- The count is down to its end in DB_SETTLE in one cycle alone, which is the confirming one. -/
theorem CleanPress.kev_iff (h : CleanPress ws s k n) (hj : j ≤ n + 3) :
    (lineAt ws s k j).kev = true ↔ j = s.cfg.tSettle.toNat + 3 := by
  have hlen := h.length
  have hlong := h.long
  cases j with
  | zero =>
    rw [lineAt_zero, h.no_event]
    simp
  | succ j =>
    rw [lineAt_kev_succ (by omega)]
    by_cases hrest : j ≤ 2
    · have hpos := h.settle_pos
      simp only [h.resting hrest, reduceCtorEq, false_and, false_iff]
      omega
    · by_cases hwait : j < s.cfg.tSettle.toNat + 3
      · obtain ⟨m, rfl⟩ := Nat.exists_eq_add_of_le' (not_le.mp hrest)
        obtain ⟨hphase, hcnt⟩ := h.settling (j := m) (by omega)
        rw [hphase, hcnt, h.sy2 (by omega), decide_eq_true_iff, eq_self, true_and]
        omega
      · simp only [h.held (j := j) (by omega) (by omega), reduceCtorEq, false_and, false_iff]
        omega

end

/-! ### The statements about runs -/

/-- A run without RST, seen from one line. -/
theorem run_lineAt {ws : List Word} {s : State} (hc : s.cfg.Valid) (h : NoRst ws) (j : Nat) :
    ∃ t, Run (ws.take j) s t ∧ ∀ k : KeyLine, t.lines[k] = lineAt ws s k j :=
  ⟨_, run_runState hc (noRst_take h j), fun _ => rfl⟩

/-- Settles O16: both flops copy; the run of two cycles is the delay, and the reset value fills it. -/
theorem synchroniserDelaysTwoCycles : Obligations.SynchroniserDelaysTwoCycles := by
  refine ⟨fun raw s => ?copy, fun s w0 w1 hc h0 h1 => ?delay, fun c ws n k => ?reset, fun c ws n w hc hw => ?first⟩
  case copy =>
    refine ⟨_, exec_sample raw s, fun k => ?_⟩
    rw [sampleLines_line]
    exact ⟨rfl, rfl⟩
  case delay =>
    obtain ⟨t, hrun, hline⟩ := run_lineAt (ws := [w0, w1]) hc (by simp [NoRst, h0, h1]) 2
    refine ⟨t, hrun, fun k => ?_⟩
    rw [hline, lineAt_sy2_add_two (by simp)]
    rfl
  case reset => simp [DebounceLine.reset]
  case first =>
    refine ⟨_, step_present_run hc hw, fun k => ?_⟩
    rw [nextState_line, DebounceLine.clock_sy2]
    simp [DebounceLine.reset]

/-- Settles O18: the line rests, settles and is held; the strobe is the confirming cycle's. -/
theorem cleanPressGivesExactlyOneEvent : Obligations.CleanPressGivesExactlyOneEvent := by
  intro s k press release hc hidle hsy1 hsy2 hkev hrst hlong hlen hpress hrelease
  have hraw : ∀ j (hj : j < (press ++ release).length),
      (press ++ release)[j].getLsbD k = decide (j < press.length) := by
    intro j hj
    rw [List.getElem_append]
    split
    next hin => simp [hpress _ (List.getElem_mem hin), hin]
    next hout => simp [hrelease _ (List.getElem_mem _), hout]
  have hclean : CleanPress (press ++ release) s k press.length :=
    ⟨hidle, hsy1, hsy2, hkev, hc.bounds.tSettle, hlong, by simp [hlen], hraw⟩
  constructor
  · intro j hj
    obtain ⟨t, hrun, hline⟩ := run_lineAt hc hrst j
    exact ⟨t, hrun, hline k ▸ hclean.kev_iff hj⟩
  · refine ⟨_, run_runState hc hrst, ?_⟩
    rw [← lineAt_length, hclean.length]
    exact hclean.released

/-- Settles O19: the only sample read after the detection is the confirming one, and it is 0. -/
theorem bounceAloneGivesNoEvent : Obligations.BounceAloneGivesNoEvent := by
  intro s k ws hc hidle hhigh hrst hlen hbounce
  have hpos := hc.bounds.tSettle
  have hlow : (lineAt ws s k s.cfg.tSettle.toNat).sy2 = false := hbounce _ (run_runState hc (noRst_take hrst _))
  have hsettling := fun j hj =>
    lineAt_settling (ws := ws) (s := s) (k := k) (i := 0) (j := j) hidle hhigh hj (by omega)
  constructor
  · intro j h1 hj
    obtain ⟨i, rfl⟩ := Nat.exists_eq_add_of_le' h1
    obtain ⟨t, hrun, hline⟩ := run_lineAt hc hrst (i + 1)
    refine ⟨t, hrun, ?_⟩
    rw [hline k, ← Bool.not_eq_true, lineAt_kev_succ (by omega)]
    rintro ⟨hphase, hcnt, hx⟩
    cases i with
    | zero => cases hidle.symm.trans hphase
    | succ i =>
      have hnow := (hsettling i (by omega)).2
      rw [Nat.zero_add] at hnow
      have hend : i + 1 = s.cfg.tSettle.toNat := by omega
      simp [hend, hlow] at hx
  · refine ⟨_, run_runState hc hrst, ?_⟩
    obtain ⟨hphase, hcnt⟩ := hsettling (s.cfg.tSettle.toNat - 1) (by omega)
    rw [Nat.zero_add, Nat.sub_add_cancel hpos] at hphase hcnt
    rw [← lineAt_length, hlen]
    exact lineAt_idle_of_reject (by omega) hphase (by omega) hlow

/-- Settles O20: the cycle before an event has counted the whole settle interval down. -/
theorem eventsOfOneLineAreSpaced : Obligations.EventsOfOneLineAreSpaced := by
  intro s k ws hc hp hrst hpos hlen
  refine ⟨_, run_runState hc hrst, ?_⟩
  obtain ⟨j, hj⟩ := Nat.exists_eq_add_of_le' hpos
  rw [← lineAt_length, hj, ← Bool.not_eq_true, lineAt_kev_succ (by omega)]
  rintro ⟨hphase, hcnt, -⟩
  have hfar := lineAt_settle_of_held hp (by omega) hphase
  omega

end Sys2Proof.Machine
end

section
/-! The forwarding gate (R108, R110, R136): the vector of the strobes, its lowest line, and the mode. -/

namespace Sys2Proof.Machine

theorem kevVector_getLsbD (ls : Vector DebounceLine 12) (k : KeyLine) : (kevVector ls).getLsbD k = ls[k].kev :=
  (BitVec.getLsbD_eq_getElem k.isLt).trans (kevVector_getElem ls k k.isLt)

theorem keyVec_ne_zero_iff (v : KeyVec) : v ≠ 0#12 ↔ ∃ k : KeyLine, v.getLsbD k = true := by
  constructor
  · intro hne
    by_contra hnone
    push Not at hnone
    exact hne (BitVec.eq_of_getLsbD_eq fun i hi => by simpa using hnone ⟨i, hi⟩)
  · rintro ⟨k, hk⟩ rfl
    simp at hk

/-- `lowestSet` finds the line that is set and has no set line below it (R110). -/
theorem lowestSet_eq_some_iff (v : KeyVec) (k : KeyLine) :
    lowestSet v = some k ↔ v.getLsbD k = true ∧ ∀ j : KeyLine, j < k → v.getLsbD j = false := by
  rw [lowestSet, ← Fin.find?_eq_find?_finRange, Fin.find?_eq_some_iff]

theorem exists_lowestSet {v : KeyVec} (h : v ≠ 0#12) : ∃ k, lowestSet v = some k := by
  obtain ⟨k, hk, hlow⟩ := (Fin.exists_eq_true_iff_exists_minimal_eq_true _).mp ((keyVec_ne_zero_iff v).mp h)
  exact ⟨k, (lowestSet_eq_some_iff v k).mpr ⟨hk, hlow⟩⟩

theorem inputEnable_iff (s : State) : inputEnable s = true ↔ s.cd.mode = .idle := by
  simp [inputEnable]

theorem fwdValid_iff (s : State) : fwdValid s = true ↔ s.cd.mode = .idle ∧ kevVector s.lines ≠ 0#12 := by
  simp [fwdValid]

theorem fwdCode_of_closed {s : State} (h : fwdValid s = false) : fwdCode s = 0#4 := by
  simp [fwdCode, h]

/-- Four bits hold the number of the lowest line. -/
theorem fwdCode_toNat_of_open {s : State} {k : KeyLine} (h : fwdValid s = true)
    (hk : lowestSet (kevVector s.lines) = some k) : (fwdCode s).toNat = k.val := by
  have hlt := k.isLt
  simp only [fwdCode, h, hk, if_true, BitVec.toNat_ofNat]
  omega

/-- Settles O21: while the gate is open the vector is not zero and has a lowest line. -/
theorem forwardingGate : Obligations.ForwardingGate := by
  intro s
  refine ⟨kevVector_getLsbD s.lines, inputEnable_iff s, ?valid, fun hopen => ?code, fwdCode_of_closed⟩
  case valid =>
    have hvalid := fwdValid_iff s
    simp only [keyVec_ne_zero_iff, kevVector_getLsbD] at hvalid
    exact hvalid
  case code =>
    obtain ⟨k, hk⟩ := exists_lowestSet ((fwdValid_iff s).mp hopen).2
    have hlowest := (lowestSet_eq_some_iff _ k).mp hk
    simp only [kevVector_getLsbD] at hlowest
    exact ⟨k, fwdCode_toNat_of_open hopen hk, hlowest⟩

end Sys2Proof.Machine
end

section
/-! Unit CD (41_countdown.md): the rows of R121 by their guards, what the operations of the unit do alone, what the
mode does over a run, and what the other units do in the step that starts or ends a countdown. -/

namespace Sys2Proof.Machine

/-! ### Values -/

theorem startTicks_ne_zero_iff (m : BitVec 7) (c : BitVec 6) :
    startTicks m c ≠ 0#13 ↔ 1 ≤ m.toNat * 60 + c.toNat := by
  rw [← startTicks_toNat]
  bv_omega

theorem startTicks_zero : startTicks 0#7 0#6 = 0#13 := rfl

theorem cueNow_eq_decide (cfg : Config) (r : BitVec 13) :
    cueNow cfg r = decide (r.toNat % cfg.cadence.toNat = 0) := by
  rw [Bool.eq_iff_iff]
  simp [cueNow, ← BitVec.toNat_inj]

theorem Countdown.decrement_eq_strobed (cfg : Config) (c : Countdown) :
    c.decrement cfg = strobed .running (c.rem - 1#13) false true
      (decide ((c.rem - 1#13).toNat % cfg.cadence.toNat = 0)) false false := by
  rw [← cueNow_eq_decide]
  rfl

/-- In a mode that is in use a resting cycle only drops the strobes (R121, R129). -/
theorem Countdown.rest_eq_strobed {c : Countdown} {m : Mode} (hm : c.mode = m) (hused : m ≠ .unused) :
    c.rest = strobed m c.rem false false false false false := by
  cases m with
  | unused => exact absurd rfl hused
  | _ => simp only [Countdown.rest, hm]

/-- The unused code recovers (R128). -/
theorem Countdown.rest_of_unused {c : Countdown} (hm : c.mode = .unused) :
    c.rest = strobed .idle 0#13 false false false false false := by
  simp only [Countdown.rest, hm]

/-! ### The rows of R121 by their guards -/

section
variable {s : State} {w : Word}

theorem nextCd_of_start (hm : s.cd.mode = .idle) (h13 : w[13] = true)
    (hn : startTicks (minField w) (secField w) ≠ 0#13) :
    nextCd s w = .begin (startTicks (minField w) (secField w)) := by
  simp [nextCd, hm, h13, hn]

theorem nextCd_of_zero_start (hm : s.cd.mode = .idle) (h13 : w[13] = true)
    (hz : startTicks (minField w) (secField w) = 0#13) : nextCd s w = .expire := by
  simp [nextCd, hm, h13, hz]

theorem nextCd_of_no_start (hm : s.cd.mode = .idle) (h13 : w[13] = false) : nextCd s w = s.cd.rest := by
  simp [nextCd, hm, h13]

theorem nextCd_of_tick (hm : s.cd.mode = .running) (h12 : w[12] = true) (hr : 1 < s.cd.rem.toNat) :
    nextCd s w = s.cd.decrement s.cfg := by
  have hmore : 1#13 < s.cd.rem := hr
  simp [nextCd, hm, h12, hmore]

theorem nextCd_of_last_tick (hm : s.cd.mode = .running) (h12 : w[12] = true) (hr : s.cd.rem.toNat ≤ 1) :
    nextCd s w = .expire := by
  have hlast : ¬ 1#13 < s.cd.rem := Nat.not_lt.mpr hr
  simp [nextCd, hm, h12, hlast]

theorem nextCd_of_no_tick (hm : s.cd.mode = .running) (h12 : w[12] = false) : nextCd s w = s.cd.rest := by
  simp [nextCd, hm, h12]

theorem nextCd_of_unused (hm : s.cd.mode = .unused) : nextCd s w = s.cd.rest := by
  simp [nextCd, hm]

end

/-- Settles O29: the guards of each row select it, and its transition is the row's mode, count and strobes. -/
theorem countdownTransitionTable : Obligations.CountdownTransitionTable := by
  intro s w hc h31
  refine ⟨_, step_present_run hc h31, nextCd_of_start, nextCd_of_zero_start, ?noStart, ?tick,
    nextCd_of_last_tick, ?noTick, ?rearm, ?playing, ?unused⟩
  case noStart =>
    exact fun hm h13 => (nextCd_of_no_start hm h13).trans (Countdown.rest_eq_strobed hm (by simp))
  case tick =>
    exact fun hm h12 hr => (nextCd_of_tick hm h12 hr).trans (Countdown.decrement_eq_strobed _ _)
  case noTick =>
    exact fun hm h12 => (nextCd_of_no_tick hm h12).trans (Countdown.rest_eq_strobed hm (by simp))
  case rearm =>
    rintro hm (hf | h14)
    · exact nextCd_of_finishing w hm hf
    · exact nextCd_of_ack hm h14
  case playing =>
    exact fun hm hf h14 => (nextCd_of_playing hm hf h14).trans (Countdown.rest_eq_strobed hm (by simp))
  case unused =>
    exact fun hm => (nextCd_of_unused hm).trans (Countdown.rest_of_unused hm)

/-! ### Strobes and transitions (R132, R134) -/

/-- Settles O31: RST enters neither mode and raises no strobe; a resting cycle enters none either; every other row
raises the strobe of the mode it enters. -/
theorem strobesMarkTransitions : Obligations.StrobesMarkTransitions := by
  intro s t hstep
  obtain ⟨-, w, s0, -, hcd, -, -, -, ⟨-, rfl⟩ | ⟨-, rfl⟩⟩ := step_cases hstep
  · simp
  · rw [nextState_cd, ← hcd]
    cases countdownRow s0 w with
    | start mode _ _ next => simp [next, mode]
    | startZero mode _ _ next => simp [next, mode]
    | decrement mode _ _ next => simp [next, mode]
    | lastTick mode _ _ next => simp [next, mode]
    | rearm mode _ next => simp [next, mode]
    | rest _ _ _ next =>
      rw [next, Countdown.rest_mode]
      split <;> simp

/-- Settles O32: TICK on the last unit, TICK before it, and no TICK. -/
theorem noCancelPauseOrReload : Obligations.NoCancelPauseOrReload := by
  intro s t w h31 hm hstep
  obtain rfl := eq_nextState_of_step h31 hstep
  rw [nextState_cd]
  cases h12 : w[12] with
  | true =>
    by_cases hr : s.cd.rem.toNat ≤ 1
    · exact .inl ⟨by rw [nextCd_of_last_tick hm h12 hr, Countdown.expire_mode], rfl, hr⟩
    · rw [nextCd_of_tick hm h12 (by omega), Countdown.decrement_mode, Countdown.decrement_rem]
      exact .inr (.inl ⟨rfl, rfl, by bv_omega⟩)
  | false =>
    rw [nextCd_of_no_tick hm h12, Countdown.rest_eq_strobed hm (by simp)]
    exact .inr (.inr ⟨rfl, rfl, rfl⟩)

/-! ### A countdown over a run (R133) -/

theorem tickCount_cons_of_tick {w : Word} (ws : List Word) (h : w[12] = true) :
    tickCount (w :: ws) = tickCount ws + 1 := by
  simp [tickCount, h]

theorem tickCount_cons_of_no_tick {w : Word} (ws : List Word) (h : w[12] = false) :
    tickCount (w :: ws) = tickCount ws := by
  simp [tickCount, h]

theorem runState_concat (ws : List Word) (w : Word) (s : State) :
    runState (ws ++ [w]) s = nextState (runState ws s) w := List.foldl_append

/-- A state of RUNNING with the TICKs it still waits for. -/
structure State.Counting (s : State) (ticks : Nat) : Prop where
  mode : s.cd.mode = .running
  ticks : s.cd.rem.toNat = ticks

/-- A TICK before the last is counted (R125). -/
theorem State.Counting.tick {s : State} {n : Nat} (h : s.Counting (n + 2)) {w : Word} (h12 : w[12] = true) :
    (nextState s w).Counting (n + 1) := by
  obtain ⟨hmode, hticks⟩ := h
  have hcd := nextCd_of_tick hmode h12 (by omega)
  refine ⟨by rw [nextState_cd, hcd, Countdown.decrement_mode], ?_⟩
  rw [nextState_cd, hcd, Countdown.decrement_rem]
  bv_omega

/-- A cycle without TICK is not (R121). -/
theorem State.Counting.hold {s : State} {n : Nat} (h : s.Counting n) {w : Word} (h12 : w[12] = false) :
    (nextState s w).Counting n := by
  have hcd := (nextCd_of_no_tick h.mode h12).trans (Countdown.rest_eq_strobed h.mode (by simp))
  exact ⟨by rw [nextState_cd, hcd, strobed_mode], by rw [nextState_cd, hcd, strobed_rem, h.ticks]⟩

/-- The last TICK expires (R126). -/
theorem State.Counting.last {s : State} (h : s.Counting 1) {w : Word} (h12 : w[12] = true) :
    nextCd s w = .expire :=
  nextCd_of_last_tick h.mode h12 h.ticks.le

/-- Fewer TICKs than are waited for: the countdown goes on. -/
theorem runState_counting {s : State} {ws : List Word} {n : Nat} (h : s.Counting (tickCount ws + (n + 1))) :
    (runState ws s).Counting (n + 1) := by
  induction ws generalizing s with
  | nil => simpa [tickCount] using h
  | cons w ws ih =>
    cases h12 : w[12] with
    | true =>
      rw [tickCount_cons_of_tick ws h12, show tickCount ws + 1 + (n + 1) = tickCount ws + n + 2 by omega] at h
      exact ih (h.tick h12)
    | false =>
      rw [tickCount_cons_of_no_tick ws h12] at h
      exact ih (h.hold h12)

/-- Settles O33: each TICK takes one off the count, no other word touches it, and at 1 the next TICK expires. -/
theorem expiresAfterExactlyNTicks : Obligations.ExpiresAfterExactlyNTicks := by
  intro s ws hc hws hm _
  have hrun : ∀ n, tickCount ws + (n + 1) = s.cd.rem.toNat → (runState ws s).Counting (n + 1) :=
    fun n hn => runState_counting ⟨hm, hn.symm⟩
  refine ⟨fun hlt => ?before, fun w h31 h12 hlast => ?expiry⟩
  case before =>
    obtain ⟨hmode, hticks⟩ := hrun (s.cd.rem.toNat - tickCount ws - 1) (by omega)
    exact ⟨_, run_runState hc hws, hmode, by omega⟩
  case expiry =>
    have hexpire := (hrun 0 hlast).last h12
    have hrst : NoRst (ws ++ [w]) := List.forall_mem_append.mpr ⟨hws, List.forall_mem_singleton.mpr h31⟩
    exact ⟨_, run_runState hc hrst, by simp [runState_concat, hexpire]⟩

/-! ### The step that starts or ends a countdown, unit by unit (R123, R124, R126) -/

theorem nextState_servo_cmd (s : State) (w : Word) : (nextState s w).servo.cmd =
    s.servo.command s.cfg (nextCd s w).evStart (nextCd s w).evExpired := rfl

theorem Servo.command_of_start (cfg : Config) (v : Servo) (expiredNow : Bool) :
    v.command cfg true expiredNow = cfg.servoRunPw := rfl

theorem Servo.command_of_expiry (cfg : Config) (v : Servo) : v.command cfg false true = cfg.servoIdlePw := rfl

/-- An effective START takes a CLICK of its word, and advances what sounds without one (R123, R143). -/
theorem nextSeq_of_begin {s : State} {w : Word} {n : BitVec 13} (hm : s.cd.mode = .idle)
    (h : nextCd s w = .begin n) :
    nextSeq s w = if w[15] then .load .click s.cfg.clickLen 1#8 else s.seq.clock s.cfg := by
  simp [nextSeq, h, hm]

/-- Settles O39: unit CD begins the countdown, and its `start_now` commands the running width. -/
theorem startIsOneStep : Obligations.StartIsOneStep := by
  intro s w hc h31 hm h13 hpos
  have hcd := nextCd_of_start hm h13 ((startTicks_ne_zero_iff _ _).mpr hpos)
  have hseq := nextSeq_of_begin hm hcd
  refine ⟨_, _, step_present_run hc h31, rfl, ?_⟩
  rw [nextState_servo_cmd, nextState_cd, nextState_seq, hcd, hseq]
  refine ⟨rfl, startTicks_toNat _ _, rfl, rfl, rfl, rfl, rfl, Servo.command_of_start _ _ _, ?click, ?advance⟩
  case click => exact fun h15 => if_pos h15
  case advance => exact fun h15 => if_neg (by simp [h15])

/-- Settles O40: both causes are the one transition `Countdown.expire`, whose `expired_now` loads the burst and
commands the idle width. -/
theorem expiryIsOneStep : Obligations.ExpiryIsOneStep := by
  intro s w hc h31 hcause
  have hcd : nextCd s w = .expire := by
    rcases hcause with ⟨hm, h12, hr⟩ | ⟨hm, h13, hmin, hsec⟩
    · exact nextCd_of_last_tick hm h12 hr
    · exact nextCd_of_zero_start hm h13 (by rw [minField, secField, hmin, hsec, startTicks_zero])
  refine ⟨_, step_present_run hc h31, ?_⟩
  rw [nextState_servo_cmd, nextState_cd, nextState_seq, nextSeq_of_expire hcd, hcd]
  exact ⟨rfl, rfl, rfl, rfl, rfl, rfl, rfl, rfl, Servo.command_of_expiry _ _⟩

/-! ### The operations alone (R124 to R127) -/

theorem exec_zero_start_of_idle {s : State} {m : BitVec 7} {c : BitVec 6} (hm : s.cd.mode = .idle)
    (hz : startTicks m c = 0#13) : exec (.start m c) s = .next (s.withCd .expire) :=
  (if_pos hm).trans (if_pos hz)

theorem exec_tick_of_running {s : State} (hm : s.cd.mode = .running) (hr : 1 < s.cd.rem.toNat) :
    exec .tick s = .next (s.withCd (s.cd.decrement s.cfg)) :=
  (if_pos hm).trans (if_pos hr)

theorem exec_last_tick_of_running {s : State} (hm : s.cd.mode = .running) (hr : s.cd.rem.toNat ≤ 1) :
    exec .tick s = .next (s.withCd .expire) :=
  (if_pos hm).trans (if_neg (Nat.not_lt.mpr hr))

theorem exec_done_of_finishing {s : State} (hm : s.cd.mode = .expired) (hf : s.seq.finishing s.cfg = true) :
    exec .done s = .next (s.withCd .rearm) :=
  if_pos ⟨hm, hf⟩

/-- Settles O23: the duration 0:00 is no tick. -/
theorem zeroStartExpiresOnTheCall : Obligations.ZeroStartExpiresOnTheCall :=
  fun _ hm => exec_zero_start_of_idle hm startTicks_zero

/-- Settles O24: the new value is tested against CADENCE. -/
theorem tickDecrements : Obligations.TickDecrements := by
  intro s _ hm hr
  refine ⟨s.cd.rem - 1#13, by bv_omega, ?_⟩
  rw [exec_tick_of_running hm hr, Countdown.decrement_eq_strobed]
  rfl

/-- Settles O25: a count of at most 1 is the last unit. -/
theorem lastTickExpires : Obligations.LastTickExpires :=
  fun _ hm hr => exec_last_tick_of_running hm hr

/-- R141's conditions on the sequencer's fields are those of `seq_done`. -/
theorem Sequencer.finishing_of_last {cfg : Config} {q : Sequencer} (hp : q.ph = .on) (hk : q.kind = .burst)
    (hl : q.left.toNat ≤ 1) (hr : q.rep.toNat ≤ 1) (hb : q.bcnt = cfg.buzPeriod - 1#16) :
    q.finishing cfg = true := by
  have hwrap : q.wrap cfg = true := by simp [Sequencer.wrap, hp, hb]
  exact Sequencer.finishing_iff.mpr ⟨hwrap, hk, hp, hl, hr⟩

/-- Settles O26: ACK and DONE are the one transition `Countdown.rearm`. -/
theorem ackAndDoneRearm : Obligations.AckAndDoneRearm := fun _ hm =>
  ⟨exec_ack_of_expired hm, fun hp hk hl hr hb =>
    exec_done_of_finishing hm (Sequencer.finishing_of_last hp hk hl hr hb)⟩

end Sys2Proof.Machine
end

section
/-! Unit PM (42_pwm_mapper.md) over one cycle: what its operations do alone, which of them a cycle runs, and the PWM
outputs. -/

namespace Sys2Proof.Machine

/-! ### The writes of an event (R142, R144 to R147) -/

theorem exec_burst (s : State) :
    exec .burst s = .next (s.withSeq (.load .burst s.cfg.burstLen s.cfg.burstCount)) := rfl

theorem exec_stop (s : State) : exec .stop s = .next (s.withSeq .silence) := rfl

theorem exec_cue (s : State) : exec .cue s = .next (s.withSeq (.load .cue s.cfg.cueLen 1#8)) := rfl

theorem exec_click_of_idle {s : State} (hm : s.cd.mode = .idle) :
    exec .click s = .next (s.withSeq (.load .click s.cfg.clickLen 1#8)) :=
  if_pos hm

/-- Settles O34: three operations write the sequencer in every mode, CLICK in IDLE. -/
theorem toneLoadsAndStop : Obligations.ToneLoadsAndStop := fun s =>
  ⟨exec_burst s, exec_stop s, exec_cue s, exec_click_of_idle⟩

/-! ### ADVANCE (R148, R149) -/

theorem exec_advance (s : State) : exec .advance s = .next (s.withSeq (s.seq.clock s.cfg)) := rfl

section
variable {cfg : Config} {q : Sequencer}

theorem Sequencer.wrap_eq_beq (hp : q.ph = .on ∨ q.ph = .gap) :
    q.wrap cfg = (q.bcnt == cfg.buzPeriod - 1#16) := by
  rcases hp with hp | hp <;> simp [Sequencer.wrap, hp]

theorem Sequencer.endPeriod_of_more (hl : 1 < q.left.toNat) :
    q.endPeriod cfg = { q with left := q.left - 1#16, bcnt := 0#16 } :=
  if_pos hl

theorem Sequencer.endPeriod_of_on (hp : q.ph = .on) (hl : q.left.toNat ≤ 1) :
    q.endPeriod cfg = q.endPulse cfg :=
  (if_neg (Nat.not_lt.mpr hl)).trans (if_pos hp)

theorem Sequencer.endPeriod_of_gap (hp : q.ph = .gap) (hl : q.left.toNat ≤ 1) :
    q.endPeriod cfg = { q with ph := .on, left := cfg.burstLen, bcnt := 0#16 } :=
  (if_neg (Nat.not_lt.mpr hl)).trans (if_neg (by simp [hp]))

theorem Sequencer.endPulse_of_more (hk : q.kind = .burst) (hr : 1 < q.rep.toNat) :
    q.endPulse cfg = { q with ph := .gap, left := cfg.burstGap, rep := q.rep - 1#8, bcnt := 0#16 } :=
  if_pos ⟨hk, hr⟩

theorem Sequencer.endPulse_of_done (h : q.kind ≠ .burst ∨ q.rep.toNat ≤ 1) : q.endPulse cfg = .silence :=
  if_neg fun hmore => h.elim (fun hk => hk hmore.1) (Nat.not_le.mpr hmore.2)

end

/-- Settles O35: a counting cycle, the end of a period in SQ_ON and in SQ_GAP, and the rest of the phases. -/
theorem advanceFollowsTheListing : Obligations.AdvanceFollowsTheListing := by
  intro s
  have hends : s.seq.ph = .on ∨ s.seq.ph = .gap → s.seq.bcnt = s.cfg.buzPeriod - 1#16 →
      s.seq.clock s.cfg = s.seq.endPeriod s.cfg := fun hp hb =>
    Sequencer.clock_ends hp (by rw [Sequencer.wrap_eq_beq hp, beq_iff_eq, hb])
  refine ⟨_, exec_advance s, Sequencer.clock_off, ?count, ?period, ?toGap, ?toOff, ?toOn⟩
  case count =>
    intro hp hb
    exact Sequencer.clock_counts hp (by rw [Sequencer.wrap_eq_beq hp, beq_eq_false_iff_ne]; exact hb)
  case period =>
    exact fun hp hb hl => (hends hp hb).trans (Sequencer.endPeriod_of_more hl)
  case toGap =>
    intro hp hb hl hk hr
    rw [hends (.inl hp) hb, Sequencer.endPeriod_of_on hp hl, Sequencer.endPulse_of_more hk hr, hk]
  case toOff =>
    intro hp hb hl hdone
    rw [hends (.inl hp) hb, Sequencer.endPeriod_of_on hp hl, Sequencer.endPulse_of_done hdone]
    rfl
  case toOn =>
    exact fun hp hb hl => (hends (.inr hp) hb).trans (Sequencer.endPeriod_of_gap hp hl)

/-! ### The sequencer's operation of a cycle (R143) -/

/-- Settles O36: the cycle's strobes are those that `nextSeq` reads its causes from. -/
theorem sequencerPriority : Obligations.SequencerPriority := fun s _ hc h31 =>
  ⟨_, _, step_present_run hc h31, exec_advance s, rfl⟩

/-! ### The servo part (R152 to R154) -/

theorem nextState_servo (s : State) (w : Word) : (nextState s w).servo =
    s.servo.clock s.cfg (nextCd s w).evStart (nextCd s w).evExpired := rfl

theorem Servo.clock_act_eq_ite (cfg : Config) (a b : Bool) (v : Servo) :
    (v.clock cfg a b).act = if v.scnt = cfg.servoPeriod - 1#16 then v.cmd else v.act := by
  simp [Servo.wrap]

theorem Servo.clock_scnt_eq_ite (cfg : Config) (a b : Bool) (v : Servo) :
    (v.clock cfg a b).scnt = if v.scnt = cfg.servoPeriod - 1#16 then 0#16 else v.scnt + 1#16 := by
  simp [Servo.wrap]

/-- Settles O37: SERVO and the cycle clock the servo part, field by field. -/
theorem servoClocks : Obligations.ServoClocks := by
  refine ⟨fun startNow expiredNow s => ?operation, fun s w hc h31 => ?cycle⟩
  case operation =>
    rw [exec_servo, ← Servo.clock_act_eq_ite s.cfg startNow expiredNow,
      ← Servo.clock_scnt_eq_ite s.cfg startNow expiredNow]
    rfl
  case cycle =>
    exact ⟨_, step_present_run hc h31, rfl, rfl, Servo.clock_act_eq_ite _ _ _ _, Servo.clock_scnt_eq_ite _ _ _ _⟩

/-! ### The PWM outputs (R150, R151, R155) -/

theorem output_buzDuty_of_on {s : State} (hp : s.seq.ph = .on) :
    (output s).buzDuty = toneDuty s.cfg s.seq.kind :=
  if_pos hp

theorem output_buzDuty_of_not_on {s : State} (hp : s.seq.ph ≠ .on) : (output s).buzDuty = 0#16 :=
  if_neg hp

theorem output_buzOut_iff (s : State) :
    (output s).buzOut = true ↔ s.seq.bcnt.toNat < (output s).buzDuty.toNat :=
  decide_eq_true_iff

theorem output_servoOut_iff (s : State) :
    (output s).servoOut = true ↔ s.servo.scnt.toNat < s.servo.act.toNat :=
  decide_eq_true_iff

theorem output_inputEnable_iff (s : State) : (output s).inputEnable = true ↔ s.cd.mode = .idle :=
  beq_iff_eq

/-- Settles O38: the tone's compare value in SQ_ON, and the two comparisons as unsigned numbers. -/
theorem pwmOutputsCompare : Obligations.PwmOutputsCompare := by
  intro s
  have hduty : ∀ k, s.seq.ph = .on → s.seq.kind = k → (output s).buzDuty = toneDuty s.cfg k :=
    fun _ hp hk => hk ▸ output_buzDuty_of_on hp
  exact ⟨output_buzDuty_of_not_on, hduty .none, hduty .click, hduty .cue, hduty .burst, output_buzOut_iff s,
    output_servoOut_iff s, rfl⟩

/-- With no tone the buzzer is not driven. -/
theorem output_buzOut_of_not_on {s : State} (hp : s.seq.ph ≠ .on) : (output s).buzOut = false := by
  rw [← Bool.not_eq_true, output_buzOut_iff, output_buzDuty_of_not_on hp]
  exact Nat.not_lt_zero _

/-! ### The return to IDLE (R145, R202) -/

/-- Settles O41: both causes are the one transition `Countdown.rearm`, under which the sequencer is silenced and
SERVO sees neither of its signals. -/
theorem rearmSilencesInOneStep : Obligations.RearmSilencesInOneStep := by
  intro s w hc h31 hm hcause
  have hcd : nextCd s w = .rearm := hcause.elim (nextCd_of_ack hm) (nextCd_of_finishing w hm)
  have hseq : (nextState s w).seq = .silence := nextSeq_of_rearm hcd
  have hoff : (nextState s w).seq.ph ≠ .on := by rw [hseq]; simp
  have hidle : (nextState s w).cd.mode = .idle := by rw [nextState_cd, hcd, Countdown.rearm_mode]
  refine ⟨_, step_present_run hc h31, hidle, ?rem, ?rearm, hseq, output_buzOut_of_not_on hoff,
    output_buzDuty_of_not_on hoff, (output_inputEnable_iff _).mpr hidle, ?servo⟩
  case rem => rw [nextState_cd, hcd, Countdown.rearm_rem]
  case rearm => rw [nextState_cd, hcd, Countdown.rearm_evRearm]
  case servo => rw [nextState_servo_cmd, hcd]; rfl

end Sys2Proof.Machine
end

section
/-! Unit PM over a run: the length of a click or a cue (R156), and the servo period (R153, R154). -/

namespace Sys2Proof.Machine

/-- A run is its last cycle after the cycles before it. -/
theorem runState_eq_last_cycle {ws : List Word} (s : State) (h : 0 < ws.length) :
    runState ws s = nextState (runState (ws.take (ws.length - 1)) s) ws[ws.length - 1] := by
  rw [← runState_take_succ, Nat.sub_add_cancel h, List.take_length]

/-! ### A single pulse (R156) -/

/-- A sequencer that sounds a tone of one pulse, no burst, with the clock cycles it still plays, the current one
among them. The count `rep` plays no part: only a burst reads it (R148). -/
structure Sequencer.Sounding (cfg : Config) (kind : ToneKind) (q : Sequencer) (cycles : Nat) : Prop where
  on : q.ph = .on
  tone : q.kind = kind
  not_burst : kind ≠ .burst
  left : 1 ≤ q.left.toNat
  inside : q.bcnt.toNat < cfg.buzPeriod.toNat
  cycles : q.left.toNat * cfg.buzPeriod.toNat = cycles + q.bcnt.toNat

section
variable {cfg : Config} {kind : ToneKind} {q : Sequencer}

theorem Sequencer.load_sounding (hb : cfg.Bounds) (hk : kind ≠ .burst) {len : BitVec 16} (hl : 1 ≤ len.toNat)
    (rep : BitVec 8) :
    (Sequencer.load kind len rep).Sounding cfg kind (len.toNat * cfg.buzPeriod.toNat) :=
  ⟨rfl, rfl, hk, hl, Nat.zero_lt_of_lt hb.buzPeriod, rfl⟩

/-- The pulse's last cycle is the last one of its last buzzer period. -/
theorem Sequencer.Sounding.eq_one_iff {n : Nat} (hb : cfg.Bounds) (h : q.Sounding cfg kind n) :
    n = 1 ↔ q.wrap cfg = true ∧ q.left.toNat ≤ 1 := by
  obtain ⟨on, -, -, left, inside, cycles⟩ := h
  rw [Sequencer.wrap_iff hb (by simp [on])]
  rcases Nat.lt_or_ge 1 q.left.toNat with hmore | hlast
  · have htwo := Nat.mul_le_mul_right cfg.buzPeriod.toNat hmore
    omega
  · rw [le_antisymm hlast left, Nat.one_mul] at cycles
    omega

/-- Every cycle but the last leaves one cycle fewer to play. -/
theorem Sequencer.Sounding.clock {n : Nat} (hb : cfg.Bounds) (h : q.Sounding cfg kind (n + 2)) :
    (q.clock cfg).Sounding cfg kind (n + 1) := by
  have hmore := (h.eq_one_iff hb).not.mp (by omega)
  obtain ⟨on, hkind, not_burst, left, inside, cycles⟩ := h
  have hwrap := Sequencer.wrap_iff (q := q) hb (by simp [on])
  cases Sequencer.clockCase (cfg := cfg) (.inl on) with
  | count hw next =>
    have hlt := hwrap.not.mp (by simp [hw])
    have hcnt : (q.bcnt + 1#16).toNat = q.bcnt.toNat + 1 := by bv_omega
    exact next ▸ ⟨on, hkind, not_burst, left, by dsimp only; omega, by dsimp only; omega⟩
  | period ends more next =>
    have hlast := hwrap.mp ends
    have hleft : q.left.toNat = (q.left - 1#16).toNat + 1 := by bv_omega
    rw [hleft, Nat.succ_mul] at cycles
    exact next ▸ ⟨on, hkind, not_burst, by dsimp only; omega, Nat.zero_lt_of_lt hb.buzPeriod,
      by dsimp only; rw [BitVec.toNat_zero]; omega⟩
  | toGap _ _ _ burst _ _ => exact absurd (hkind.symm.trans burst) not_burst
  | toOff ends last _ _ _ => exact absurd ⟨ends, last⟩ hmore
  | toOn _ _ gap _ => simp [on] at gap

/-- The last cycle ends the tone. -/
theorem Sequencer.Sounding.last (hb : cfg.Bounds) (h : q.Sounding cfg kind 1) : q.clock cfg = .silence := by
  obtain ⟨hw, hlast⟩ := (h.eq_one_iff hb).mp rfl
  rw [Sequencer.clock_ends (.inl h.on) hw, Sequencer.endPeriod_of_on h.on hlast,
    Sequencer.endPulse_of_done (.inl (h.tone ▸ h.not_burst))]

end

/-- Fewer uninterrupted cycles than are left: the tone still sounds. -/
theorem runState_sounding {s : State} {ws : List Word} {kind : ToneKind} (hc : s.cfg.Valid)
    (hu : Uninterrupted ws s) (h : s.seq.Sounding s.cfg kind ws.length) {j n : Nat}
    (hj : j + (n + 1) = ws.length) : (runState (ws.take j) s).seq.Sounding s.cfg kind (n + 1) := by
  induction j generalizing n with
  | zero => rw [Nat.zero_add] at hj; exact hj ▸ h
  | succ j ih =>
    have hlt : j < ws.length := by omega
    rw [runState_take_succ _ _ _ hlt, (uninterrupted_clock hc hu).2 j hlt]
    exact (ih (by omega)).clock hc.bounds

/-- While a tone sounds, its compare value is in force (R150). -/
theorem Sequencer.Sounding.buzDuty {s : State} {kind : ToneKind} {n : Nat} (h : s.seq.Sounding s.cfg kind n) :
    (output s).buzDuty = toneDuty s.cfg kind := by
  rw [output_buzDuty_of_on h.on, h.tone]

/-- Settles O43: the count of the cycles left starts at the length, falls by one in each cycle and is 1 in the
last. -/
theorem toneLengthIsExact : Obligations.ToneLengthIsExact := by
  intro s kind len ws hc htone hseq hu hlen
  have hload : s.seq = .load kind len 1#8 := hseq
  obtain ⟨hburst, hpos, hduty⟩ : kind ≠ .burst ∧ 1 ≤ len.toNat ∧
      toneDuty s.cfg kind = if kind = .click then s.cfg.clickDuty else s.cfg.cueDuty := by
    rcases htone with ⟨rfl, rfl⟩ | ⟨rfl, rfl⟩
    · exact ⟨by simp, hc.bounds.clickLen, rfl⟩
    · exact ⟨by simp, hc.bounds.cueLen, rfl⟩
  have hstart : s.seq.Sounding s.cfg kind ws.length := by
    rw [hload, hlen]
    exact Sequencer.load_sounding hc.bounds hburst hpos _
  obtain ⟨hrst, hclock⟩ := uninterrupted_clock hc hu
  refine ⟨fun j hj => ⟨_, run_runState hc (noRst_take hrst j), ?sounds⟩, _, run_runState hc hrst, ?stops⟩
  case sounds =>
    have hnow := runState_sounding hc hu hstart (j := j) (n := ws.length - j - 1) (by omega)
    rw [← runState_cfg (ws.take j) s] at hnow
    rw [hnow.buzDuty, runState_cfg, hduty]
  case stops =>
    have hwhole : 0 < ws.length := hlen ▸ Nat.mul_pos hpos (Nat.zero_lt_of_lt hc.bounds.buzPeriod)
    have hlast := runState_sounding hc hu hstart (j := ws.length - 1) (n := 0) (by omega)
    have hoff := (hclock (ws.length - 1) (by omega)).trans (hlast.last hc.bounds)
    rw [← runState_eq_last_cycle s hwhole] at hoff
    have hph : (runState ws s).seq.ph = .off := by rw [hoff, Sequencer.silence_ph]
    exact ⟨hph, output_buzDuty_of_not_on (by simp [hph])⟩

/-! ### The servo period (R153, R154) -/

/-- The servo part in cycle `cycle` of a servo period, with the active width `width`. -/
structure Servo.InPeriod (width : BitVec 16) (v : Servo) (cycle : Nat) : Prop where
  count : v.scnt.toNat = cycle
  act : v.act = width

/-- Before the last cycle of the period the counter counts and the active width stays. -/
theorem Servo.InPeriod.clock {cfg : Config} {v : Servo} {width : BitVec 16} {j : Nat} (hb : cfg.Bounds)
    (h : v.InPeriod width j) (hj : j + 1 < cfg.servoPeriod.toNat) (a b : Bool) :
    (v.clock cfg a b).InPeriod width (j + 1) := by
  obtain ⟨hcount, hact⟩ := h
  have hw : v.wrap cfg = false := by simpa using (Servo.wrap_iff hb).not.mpr (by omega)
  have hnext : (v.scnt + 1#16).toNat = j + 1 := by bv_omega
  exact ⟨by simpa [hw] using hnext, by simpa [hw] using hact⟩

/-- In its last cycle the counter wraps and the registered command is latched. -/
theorem Servo.InPeriod.last {cfg : Config} {v : Servo} {width : BitVec 16} {j : Nat} (hb : cfg.Bounds)
    (h : v.InPeriod width j) (hj : j + 1 = cfg.servoPeriod.toNat) (a b : Bool) :
    (v.clock cfg a b).scnt = 0#16 ∧ (v.clock cfg a b).act = v.cmd := by
  have hw : v.wrap cfg = true := (Servo.wrap_iff hb).mpr (h.count.symm ▸ hj)
  simp [hw]

/-- The cycles of a servo period, whatever the words request. -/
theorem runState_inPeriod {s : State} {ws : List Word} (hb : s.cfg.Bounds) (h0 : s.servo.scnt = 0#16) {j : Nat}
    (hj : j < s.cfg.servoPeriod.toNat) (hlen : j ≤ ws.length) :
    (runState (ws.take j) s).servo.InPeriod s.servo.act j := by
  induction j with
  | zero => exact ⟨by simp [h0], rfl⟩
  | succ j ih =>
    rw [runState_take_succ _ _ _ hlen, nextState_servo, runState_cfg]
    exact (ih (by omega) (by omega)).clock hb hj _ _

/-- Settles O44: the counter is the cycle's number in the period, and the last cycle latches. -/
theorem servoPeriodIsExact : Obligations.ServoPeriodIsExact := by
  intro s ws hc h0 hrst hlen
  have hpos : 0 < ws.length := hlen ▸ Nat.zero_lt_of_lt hc.bounds.servoPeriod
  have hcycle : ∀ j, j < ws.length → (runState (ws.take j) s).servo.InPeriod s.servo.act j :=
    fun j hj => runState_inPeriod hc.bounds h0 (hlen ▸ hj) hj.le
  refine ⟨fun j hj => ⟨_, run_runState hc (noRst_take hrst j), (hcycle j hj).count, (hcycle j hj).act⟩,
    _, _, run_runState hc hrst, run_runState hc (noRst_take hrst _), ?_⟩
  rw [runState_eq_last_cycle s hpos, nextState_servo, runState_cfg]
  exact (hcycle _ (by omega)).last hc.bounds (by omega) _ _

end Sys2Proof.Machine
end

section
/-! The environment (43_environment.md): the scanner's choice (R171), the arithmetic of an entry (R175, R176), the cases
of ENV's assembler (R184), and the closed loop's step on the completing digit. -/

namespace Sys2Proof.Machine

/-! ### The scanner (R171) -/

/-- The numbering of R83 is the scan order: rows first, columns within a row. -/
theorem le_of_scan_order {k j : KeyLine}
    (h : keyRow k < keyRow j ∨ (keyRow k = keyRow j ∧ keyColumn k ≤ keyColumn j)) : k ≤ j := by
  rw [Fin.le_def]
  simp only [keyRow, keyColumn] at h
  omega

theorem scannedRaw_zero : scannedRaw 0#12 = 0#12 := by decide

theorem scannedRaw_of_scan {pressed : KeyVec} {k : KeyLine} (h : scan pressed = some k) :
    scannedRaw pressed = 1#12 <<< k.val := by
  simp only [scannedRaw, h]

theorem one_shiftLeft_getLsbD_iff (k j : KeyLine) : (1#12 <<< k.val).getLsbD j = true ↔ j = k := by
  rw [← BitVec.twoPow_eq, BitVec.getLsbD_twoPow, decide_eq_true k.isLt, Bool.true_and, decide_eq_true_iff,
    Fin.ext_iff, eq_comm]

/-- Settles O52: the first key in scan order is the lowest set line, and the port has that bit alone. -/
theorem scannerReportsTheFirstKey : Obligations.ScannerReportsTheFirstKey := by
  refine fun pressed => ⟨?none, fun k hk hfirst => ?first⟩
  case none =>
    rintro rfl
    exact scannedRaw_zero
  case first =>
    have hlow : ∀ j : KeyLine, j < k → pressed.getLsbD j = false := fun j hjk =>
      Bool.eq_false_iff.mpr fun hj => hjk.not_ge (le_of_scan_order (hfirst j hj))
    have hscan : scan pressed = some k := (lowestSet_eq_some_iff pressed k).mpr ⟨hk, hlow⟩
    rw [scannedRaw_of_scan hscan]
    exact one_shiftLeft_getLsbD_iff k

/-! ### The arithmetic of an entry (R175, R176) -/

theorem durationSeconds_le (p : Nat) : durationSeconds p ≤ 59 := by
  unfold durationSeconds
  omega

theorem durationMinutes_le {p : Nat} (hp : p < 10000) : durationMinutes p ≤ 100 := by
  unfold durationMinutes
  omega

/-- Folding seconds into minutes loses no tick (R175). -/
theorem duration_ticks (p : Nat) : durationMinutes p * 60 + durationSeconds p = p / 100 * 60 + p % 100 := by
  unfold durationMinutes durationSeconds
  omega

/-- The operand fields hold the normalised pair, so START counts the entry's ticks (R176). -/
theorem startTicks_duration {p : Nat} (hp : p < 10000) :
    (startTicks (BitVec.ofNat 7 (durationMinutes p)) (BitVec.ofNat 6 (durationSeconds p))).toNat =
      p / 100 * 60 + p % 100 := by
  have hmin : durationMinutes p < 2 ^ 7 := (durationMinutes_le hp).trans_lt (by decide)
  have hsec : durationSeconds p < 2 ^ 6 := (durationSeconds_le p).trans_lt (by decide)
  rw [startTicks_toNat, BitVec.toNat_ofNat, BitVec.toNat_ofNat, Nat.mod_eq_of_lt hmin, Nat.mod_eq_of_lt hsec,
    duration_ticks]

/-- Settles O49: both operands fit their fields, and folding keeps the total. -/
theorem normalisationKeepsTheTicks : Obligations.NormalisationKeepsTheTicks :=
  fun p hp => ⟨durationSeconds_le p, durationMinutes_le hp, rfl, startTicks_duration hp⟩

theorem decimal_append_digit (ds : List (Fin 10)) (d : Fin 10) :
    decimal (ds ++ [d]) = 10 * decimal ds + d.val := by
  simp [decimal]

theorem decimal_lt_pow (ds : List (Fin 10)) : decimal ds < 10 ^ ds.length := by
  induction ds using List.reverseRecOn with
  | nil => simp [decimal]
  | append_singleton ds d ih =>
    rw [decimal_append_digit, List.length_append, List.length_singleton, pow_succ]
    omega

theorem PinLen.toNat_pos (n : PinLen) : 0 < n.toNat := by
  cases n <;> decide

theorem PinLen.toNat_le (n : PinLen) : n.toNat ≤ 4 := by
  cases n <;> decide

/-- A full buffer's value is within the range that R176 is about. -/
theorem decimal_lt_of_full {ds : List (Fin 10)} {n : PinLen} (h : ds.length = n.toNat) : decimal ds < 10000 :=
  calc decimal ds < 10 ^ ds.length := decimal_lt_pow ds
    _ ≤ 10 ^ 4 := Nat.pow_le_pow_right (by decide) (h ▸ n.toNat_le)

/-! ### The cases of the assembler (R184) -/

/-- The block forwards the digit `d` in this cycle: the gate is open on a key of that value (R110, R83). -/
structure Outputs.Forwards (o : Outputs) (d : Fin 10) : Prop where
  valid : o.fwdValid = true
  key : ∃ k : KeyLine, o.fwdCode.toNat = k.val ∧ digitValue k = some d

section
variable (e : Env) {o : Outputs} (free : FreeInputs)

theorem Env.assemble_of_digit {d : Fin 10} (h : o.Forwards d) :
    e.assemble o free =
      if e.buf.length < e.pinLen.toNat then
        if e.buf.length + 1 = e.pinLen.toNat then
          (entryComplete free (decimal (e.buf ++ [d])), { e with buf := [] })
        else (digitAccepted free, { e with buf := e.buf ++ [d] })
      else (freeOnly free, e.rearmed o) := by
  obtain ⟨valid, k, hcode, hdigit⟩ := h
  have hopen : o.fwdValid = true ∧ o.fwdCode.toNat < 12 := ⟨valid, hcode ▸ k.isLt⟩
  have hline : (⟨o.fwdCode.toNat, hopen.2⟩ : KeyLine) = k := Fin.ext hcode
  simp only [Env.assemble, dif_pos hopen, hline, hdigit, List.length_append, List.length_singleton]

theorem Env.assemble_of_no_digit (h : ∀ d, ¬ o.Forwards d) : e.assemble o free = (freeOnly free, e.rearmed o) := by
  unfold Env.assemble
  split
  case isTrue hopen =>
    split
    case h_1 => rfl
    case h_2 d hdigit => exact absurd ⟨hopen.1, _, rfl, hdigit⟩ (h d)
  case isFalse => rfl

/-- What one cycle of the assembler can do, with the guard of each case. -/
inductive Env.AssembleCase (o : Outputs) : Prop where
  | ignored (next : e.assemble o free = (freeOnly free, e.rearmed o))
  | accepted (d : Fin 10) (digit : o.Forwards d) (room : e.buf.length + 1 < e.pinLen.toNat)
      (next : e.assemble o free = (digitAccepted free, { e with buf := e.buf ++ [d] }))
  | completed (d : Fin 10) (digit : o.Forwards d)
      (next : e.assemble o free = (entryComplete free (decimal (e.buf ++ [d])), { e with buf := [] }))

theorem Env.assembleCase (o : Outputs) : e.AssembleCase free o := by
  by_cases hforward : ∃ d, o.Forwards d
  · obtain ⟨d, hd⟩ := hforward
    have hnext := e.assemble_of_digit free hd
    by_cases hroom : e.buf.length < e.pinLen.toNat
    · rw [if_pos hroom] at hnext
      by_cases hlast : e.buf.length + 1 = e.pinLen.toNat
      · exact .completed d hd (hnext.trans (if_pos hlast))
      · exact .accepted d hd (by omega) (hnext.trans (if_neg hlast))
    · exact .ignored (hnext.trans (if_neg hroom))
  · exact .ignored (e.assemble_of_no_digit free (not_exists.mp hforward))

/-- The digit that is one short of the entry completes it. -/
theorem Env.assemble_of_completing_digit {d : Fin 10} (h : o.Forwards d)
    (hlast : e.buf.length + 1 = e.pinLen.toNat) :
    e.assemble o free = (entryComplete free (decimal (e.buf ++ [d])), { e with buf := [] }) := by
  rw [e.assemble_of_digit free h, if_pos (hlast ▸ Nat.lt_succ_self _), if_pos hlast]

theorem Env.react_fst (o : Outputs) : (e.react o free).1 = (e.assemble o free).1 := rfl

theorem Env.react_snd_of_rst (o : Outputs) {free : FreeInputs} (h : free.rst = true) :
    (e.react o free).2 = { e with buf := [] } :=
  if_pos h

theorem Env.react_snd_of_run (o : Outputs) {free : FreeInputs} (h : free.rst = false) :
    (e.react o free).2 = (e.assemble o free).2 :=
  if_neg (by simp [h])

/-- ENV passes RST on as it is. -/
theorem Env.react_rst (o : Outputs) : (e.react o free).1.rst = free.rst := by
  rw [Env.react_fst]
  cases e.assembleCase free o with
  | ignored next => rw [next]; rfl
  | accepted _ _ _ next => rw [next]; rfl
  | completed _ _ next => rw [next]; rfl

theorem Env.click_of_start (h : (e.react o free).1.start = true) : (e.react o free).1.click = true := by
  rw [Env.react_fst] at h ⊢
  cases e.assembleCase free o with
  | ignored next => rw [next] at h; exact absurd h Bool.false_ne_true
  | accepted _ _ _ next => rw [next]; rfl
  | completed _ _ next => rw [next]; rfl

/-- ENV clicks only for a digit that the block forwards (R179). -/
theorem Env.forwards_of_click (h : (e.react o free).1.click = true) : ∃ d, o.Forwards d := by
  rw [Env.react_fst] at h
  cases e.assembleCase free o with
  | ignored next => rw [next] at h; exact absurd h Bool.false_ne_true
  | accepted d digit _ _ => exact ⟨d, digit⟩
  | completed d digit _ => exact ⟨d, digit⟩

end

/-- The block forwards a digit only in IDLE (R110). -/
theorem mode_of_forwards {s : State} {d : Fin 10} (h : (output s).Forwards d) : s.cd.mode = .idle :=
  ((fwdValid_iff s).mp h.valid).1

/-- Settles O50: a CLICK answers a forwarded digit, and the gate is open in IDLE only. -/
theorem environmentStartsOnlyInIdle : Obligations.EnvironmentStartsOnlyInIdle := by
  refine fun s e free => ⟨e.click_of_start free, fun hclick => ?_⟩
  obtain ⟨d, hd⟩ := e.forwards_of_click free hclick
  have hidle := mode_of_forwards hd
  exact ⟨hidle, (output_inputEnable_iff s).mpr hidle⟩

/-! ### The buffer (R173) -/

/-- The buffer has room for a digit: ENV's invariant. -/
def Env.HasRoom (e : Env) : Prop := e.buf.length < e.pinLen.toNat

theorem Env.hasRoom_of_empty (n : PinLen) : (Env.mk n []).HasRoom := n.toNat_pos

theorem Env.rearmed_pinLen (e : Env) (o : Outputs) : (e.rearmed o).pinLen = e.pinLen := by
  unfold Env.rearmed
  split <;> rfl

theorem Env.HasRoom.rearmed {e : Env} (h : e.HasRoom) (o : Outputs) : (e.rearmed o).HasRoom := by
  unfold Env.rearmed
  split
  · exact Env.hasRoom_of_empty e.pinLen
  · exact h

theorem Env.HasRoom.assemble {e : Env} (h : e.HasRoom) (o : Outputs) (free : FreeInputs) :
    (e.assemble o free).2.HasRoom ∧ (e.assemble o free).2.pinLen = e.pinLen := by
  cases e.assembleCase free o with
  | ignored next => exact next ▸ ⟨h.rearmed o, e.rearmed_pinLen o⟩
  | accepted d _ room next =>
    rw [next]
    exact ⟨by rwa [Env.HasRoom, List.length_append, List.length_singleton], rfl⟩
  | completed _ _ next => exact next ▸ ⟨Env.hasRoom_of_empty e.pinLen, rfl⟩

theorem Env.HasRoom.react {e : Env} (h : e.HasRoom) (o : Outputs) (free : FreeInputs) :
    (e.react o free).2.HasRoom ∧ (e.react o free).2.pinLen = e.pinLen := by
  cases hrst : free.rst with
  | true => exact e.react_snd_of_rst o hrst ▸ ⟨Env.hasRoom_of_empty e.pinLen, rfl⟩
  | false => exact e.react_snd_of_run o hrst ▸ h.assemble o free

/-- Settles O54: the digit that would fill the buffer empties it. -/
theorem environmentBufferStaysBelowCapacity : Obligations.EnvironmentBufferStaysBelowCapacity :=
  ⟨fun _ o free h => Env.HasRoom.react h o free, Env.hasRoom_of_empty⟩

/-! ### The completing digit in the closed loop (R184) -/

/-- A digit key that is the lowest confirmed one in IDLE is forwarded (R110). -/
theorem forwards_of_lowest_key {s : State} {k : KeyLine} {d : Fin 10} (hm : s.cd.mode = .idle)
    (hk : s.lines[k].kev = true) (hlow : ∀ j : KeyLine, j < k → s.lines[j].kev = false)
    (hd : digitValue k = some d) : (output s).Forwards d := by
  simp only [← kevVector_getLsbD] at hk hlow
  have hopen : fwdValid s = true := (fwdValid_iff s).mpr ⟨hm, (keyVec_ne_zero_iff _).mpr ⟨k, hk⟩⟩
  exact ⟨hopen, k, fwdCode_toNat_of_open hopen ((lowestSet_eq_some_iff _ k).mpr ⟨hk, hlow⟩), hd⟩

/-- A cycle of the closed loop without RST: the block takes the word that ENV's ports pack. -/
theorem Loop.step_of_run {l : Loop} {free : FreeInputs} (hc : l.block.cfg.Valid) (hr : free.rst = false) :
    l.step free = .next
      ⟨nextState l.block (l.env.react (output l.block) free).1.toWord, (l.env.react (output l.block) free).2⟩ := by
  have h31 : (l.env.react (output l.block) free).1.toWord[31] = false :=
    calc (l.env.react (output l.block) free).1.toWord[31]
      _ = (l.env.react (output l.block) free).1.rst := congrArg CycleInput.rst (CycleInput.ofWord_toWord _)
      _ = false := (l.env.react_rst free _).trans hr
  simp only [Loop.step, step_present_run hc h31]

/-- The word of the completing digit has the START bit. -/
theorem entryComplete_toWord_start (free : FreeInputs) (p : Nat) : (entryComplete free p).toWord[13] = true :=
  congrArg CycleInput.start (CycleInput.ofWord_toWord (entryComplete free p))

/-- Its START has the operands of the normalised duration, and so the entry's ticks. -/
theorem entryComplete_toWord_ticks (free : FreeInputs) {p : Nat} (hp : p < 10000) :
    (startTicks (minField (entryComplete free p).toWord) (secField (entryComplete free p).toWord)).toNat =
      p / 100 * 60 + p % 100 := by
  rw [minField_toWord, secField_toWord]
  exact startTicks_duration hp

/-- Settles O51: the digit is forwarded, ENV's word has the START of the entry, and unit CD takes its row of R121. -/
theorem completingDigitStartsTheCountdown : Obligations.CompletingDigitStartsTheCountdown := by
  intro l free k d hc hr hm hk hlow hd hlast
  have hforward := forwards_of_lowest_key hm hk hlow hd
  have hnext := l.env.assemble_of_completing_digit free hforward hlast
  have hports : (l.env.react (output l.block) free).1 = entryComplete free (decimal (l.env.buf ++ [d])) :=
    congrArg Prod.fst hnext
  have henv : (l.env.react (output l.block) free).2 = { l.env with buf := [] } :=
    (l.env.react_snd_of_run _ hr).trans (congrArg Prod.snd hnext)
  have hp : decimal (l.env.buf ++ [d]) < 10000 := decimal_lt_of_full (List.length_append.trans hlast)
  have h13 := entryComplete_toWord_start free (decimal (l.env.buf ++ [d]))
  have hticks := entryComplete_toWord_ticks free hp
  have hstep := Loop.step_of_run hc hr
  rw [hports, henv] at hstep
  refine ⟨congrArg CycleInput.start hports, congrArg CycleInput.click hports, _, hstep, rfl,
    fun hpos => ?running, fun hzero => ?expired⟩
  case running =>
    have hcd := nextCd_of_start hm h13 fun hz => hpos (by rw [← hticks, hz, BitVec.toNat_zero])
    rw [nextState_cd, hcd]
    exact ⟨rfl, rfl, hticks⟩
  case expired =>
    have hcd := nextCd_of_zero_start hm h13 (BitVec.eq_of_toNat_eq (hticks.trans hzero))
    rw [nextState_cd, hcd]
    exact ⟨rfl, rfl, rfl⟩

end Sys2Proof.Machine
end

section
/-! What stands in the place of exceptions (60_exceptions.md): every step answers (R190), and what the registered mode
does not enable is absorbed (R194 to R196). -/

namespace Sys2Proof.Machine

/-! ### Every step answers (R190) -/

/-- A cycle answers whatever word it takes (R54, R210). -/
theorem clockOps_completes (w : Word) (s : State) : ∃ t, clockOps (decodeWord w) s = .next t := by
  cases hw : w[31] with
  | true => exact ⟨_, clockOps_rst hw s⟩
  | false => exact ⟨_, clockOps_run hw s⟩

theorem step_of_valid {s : State} (hc : s.cfg.Valid) :
    step s = clockOps (decodeWord (fetchWord s).1) (fetchWord s).2 :=
  if_pos hc

theorem step_of_invalid {s : State} (hc : ¬ s.cfg.Valid) : step s = .refused .configOutOfRange :=
  if_neg hc

/-- Settles O9: the parameters alone decide whether the cycle runs. -/
theorem stepAnswersExactlyOnValidParameters : Obligations.StepAnswersExactlyOnValidParameters := by
  refine ⟨fun s hc => ?_, fun s hc => step_of_invalid hc⟩
  rw [step_of_valid hc]
  exact clockOps_completes _ _

/-! ### Absorbed operations (R190, R194 to R196) -/

/-- Settles O27: each operation's guard on the mode is its outermost branch. -/
theorem absorbedOperationsChangeNothing : Obligations.AbsorbedOperationsChangeNothing := by
  refine fun s => ⟨?start, ?tick, ?ack, ?done, ?click⟩
  case start => exact fun m c hm => if_neg hm
  case tick => exact fun hm => if_neg hm
  case ack => exact fun hm => if_neg hm
  case done => exact fun hm => if_neg fun ⟨hexpired, _⟩ => hm hexpired
  case click => exact fun hm => if_neg hm

/-! ### Absorbed strobes (R194 to R196) -/

/-- The ports that a cycle reads in a mode have the same values: `rst` and `raw` in every mode, and the strobes that
the mode enables, START with its operands (R122, R125, R127, R130, R147). -/
structure EnabledPortsAgree (m : Mode) (c d : CycleInput) : Prop where
  rst : c.rst = d.rst
  raw : c.raw = d.raw
  start : m = .idle → c.start = d.start ∧ c.min = d.min ∧ c.sec = d.sec
  tick : m = .running → c.tick = d.tick
  ack : m = .expired → c.ack = d.ack
  click : m = .idle → c.click = d.click

section
variable {s : State} {w v : Word}

/-- Unit CD reads the strobe that its mode enables (R130). -/
theorem nextCd_congr (h : EnabledPortsAgree s.cd.mode (.ofWord w) (.ofWord v)) : nextCd s w = nextCd s v := by
  cases hm : s.cd.mode with
  | idle =>
    obtain ⟨hstart : w[13] = v[13], hmin : minField w = minField v, hsec : secField w = secField v⟩ := h.start hm
    simp only [nextCd, hm, hstart, hmin, hsec]
  | running =>
    have htick : w[12] = v[12] := h.tick hm
    simp only [nextCd, hm, htick]
  | expired =>
    have hack : w[14] = v[14] := h.ack hm
    simp only [nextCd, hm, hack]
  | unused => rw [nextCd_of_unused hm, nextCd_of_unused hm]

/-- The sequencer reads unit CD's events, and CLICK in IDLE alone (R143). -/
theorem nextSeq_congr (h : EnabledPortsAgree s.cd.mode (.ofWord w) (.ofWord v)) : nextSeq s w = nextSeq s v := by
  have hclick : (w[15] = true ∧ s.cd.mode = .idle) ↔ (v[15] = true ∧ s.cd.mode = .idle) := by
    refine and_congr_left fun hm => ?_
    have hport : w[15] = v[15] := h.click hm
    rw [hport]
  simp only [nextSeq, nextCd_congr h, hclick]

theorem nextState_congr (h : EnabledPortsAgree s.cd.mode (.ofWord w) (.ofWord v)) :
    nextState s w = nextState s v := by
  have hraw : rawField w = rawField v := h.raw
  simp only [nextState, hraw, nextCd_congr h, nextSeq_congr h]

/-- A step depends on the ports that the registered mode enables, and on no other. -/
theorem step_present_congr (h : EnabledPortsAgree s.cd.mode (.ofWord w) (.ofWord v)) :
    step (s.present w) = step (s.present v) := by
  have hrst : w[31] = v[31] := h.rst
  by_cases hc : s.cfg.Valid
  · cases hv : v[31] with
    | true => rw [step_present_rst hc (hrst.trans hv), step_present_rst hc hv]
    | false => rw [step_present_run hc (hrst.trans hv), step_present_run hc hv, nextState_congr h]
  · rw [step_present, step_present, if_neg hc, if_neg hc]

end

/-- A mask that keeps the ports the mode enables leaves a word's values there (R71). -/
theorem EnabledPortsAgree.and {mode : Mode} {m : Word}
    (h : EnabledPortsAgree mode (.ofWord (BitVec.allOnes 32)) (.ofWord m)) (w : Word) :
    EnabledPortsAgree mode (.ofWord w) (.ofWord (w &&& m)) := by
  have keeps {b c : Bool} (hc : true = c) : b = (b && c) := by rw [← hc, Bool.and_true]
  have keepsField {n : Nat} {x y : BitVec n} (hy : BitVec.allOnes n = y) : x = x &&& y := by
    rw [← hy, BitVec.and_allOnes]
  rw [CycleInput.ofWord_and]
  refine { rst := keeps h.rst, raw := keepsField h.raw, start := fun hm => ?_, tick := fun hm => keeps (h.tick hm),
           ack := fun hm => keeps (h.ack hm), click := fun hm => keeps (h.click hm) }
  obtain ⟨hstart, hmin, hsec⟩ := h.start hm
  exact ⟨keeps hstart, keepsField hmin, keepsField hsec⟩

/-- Settles O28: each mask clears one strobe, which the registered mode does not enable. -/
theorem absorbedStrobesLeaveNoTrace : Obligations.AbsorbedStrobesLeaveNoTrace := by
  refine fun s w => ⟨fun hm => step_present_congr (.and ?start w), fun hm => step_present_congr (.and ?tick w),
    fun hm => step_present_congr (.and ?ack w), fun hm => step_present_congr (.and ?click w)⟩
  case start => exact ⟨rfl, rfl, fun hidle => absurd hidle hm, fun _ => rfl, fun _ => rfl, fun _ => rfl⟩
  case tick => exact ⟨rfl, rfl, fun _ => ⟨rfl, rfl, rfl⟩, fun hrun => absurd hrun hm, fun _ => rfl, fun _ => rfl⟩
  case ack => exact ⟨rfl, rfl, fun _ => ⟨rfl, rfl, rfl⟩, fun _ => rfl, fun hexp => absurd hexp hm, fun _ => rfl⟩
  case click => exact ⟨rfl, rfl, fun _ => ⟨rfl, rfl, rfl⟩, fun _ => rfl, fun _ => rfl, fun hidle => absurd hidle hm⟩

end Sys2Proof.Machine
end

section
/-! The reset of 70_reset_and_hazards.md: the field values a word with RST leaves (R210 to R212), and the outputs in
the reset state (R213). -/

namespace Sys2Proof.Machine

/-- Settles O11: `toReset` is the reset state under the same parameters and environment. -/
theorem rstCompletes : Obligations.RstCompletes := exec_rst

section
variable (c : Config) (ws : List Word) (n : Nat)

/-- The reset state has every key line at its reset values (R211). -/
theorem State.resetOf_line (k : KeyLine) : (State.resetOf c ws n).lines[k] = DebounceLine.reset :=
  replicate_reset_getElem k k.isLt

/-- No line has its strobe up. -/
theorem kevVector_resetOf : kevVector (State.resetOf c ws n).lines = 0#12 := by
  rw [← not_ne_iff, keyVec_ne_zero_iff, not_exists]
  intro k
  rw [kevVector_getLsbD, State.resetOf_line]
  exact Bool.false_ne_true

/-- The mode is IDLE, but there is nothing to forward. -/
theorem fwdValid_resetOf : fwdValid (State.resetOf c ws n) = false := by
  rw [← Bool.not_eq_true, fwdValid_iff]
  exact fun hopen => hopen.2 (kevVector_resetOf c ws n)

/-- The sequencer is in SQ_OFF (R212). -/
theorem State.resetOf_not_on : (State.resetOf c ws n).seq.ph ≠ .on := by simp

end

/-- Settles O10: a word with RST leaves `toReset`, whose lines are all alike and whose other fields are given one by
one. -/
theorem resetWordResetsEveryField : Obligations.ResetWordResetsEveryField := by
  intro s w hc hw
  refine ⟨s.toReset, step_present_rst hc hw, fun k => ?line, ?others⟩
  case line =>
    have hline : s.toReset.lines[k] = DebounceLine.reset := State.resetOf_line _ _ _ k
    rw [hline]
    exact ⟨rfl, rfl, rfl, rfl, rfl⟩
  case others =>
    exact ⟨rfl, rfl, rfl, rfl, rfl, rfl, rfl, rfl, rfl, rfl, rfl, rfl, rfl, rfl, rfl, rfl, rfl, rfl⟩

/-- Settles O12: no strobe is up, so the gate is closed in IDLE too; the sequencer is off; every other port is its
register. -/
theorem resetOutputs : Obligations.ResetOutputs := by
  intro c ws n
  have hvalid := fwdValid_resetOf c ws n
  have hoff := State.resetOf_not_on c ws n
  have hbuzOut : buzOut (State.resetOf c ws n) = false := output_buzOut_of_not_on hoff
  have hbuzDuty : buzDuty (State.resetOf c ws n) = 0#16 := output_buzDuty_of_not_on hoff
  rw [output, kevVector_resetOf, hvalid, fwdCode_of_closed hvalid, hbuzOut, hbuzDuty]
  rfl

end Sys2Proof.Machine
end
